-- ==== Sys2Proof/Word.lean ====
section
/-! DEFINITION. The 32-bit word that both command ports and both configuration banks are made of. -/

namespace Sys2Proof

/-- One word on a command port or in a configuration bank (spec R70, R50). -/
abbrev Word := BitVec 32

end Sys2Proof
end

