-- ==== Sys2Proof/Config.lean ====
section
/-! DEFINITION. The fixed sizes of the block (spec R6), the constants of spec R7, and its one OPEN parameter, `RND`. -/

namespace Sys2Proof.Config

/-- `STICK_MAX`, the top of the stick mapping range (R6). -/
def stickMax : ℤ := 32767

/-- `STICK_MIN`, the bottom of the signed 16-bit stick range (R6). -/
def stickMin : ℤ := -32768

/-- `YAW_HOLD_CLAMP`, in microseconds (R6, R155). -/
def yawHoldClamp : ℚ := 400

/-- `NTOK`, the tokens of a gamepad frame line (R6, R111). -/
def ntok : ℕ := 7

/-- `GYRO_BAD_MAX`, the saturation value of `gyro_bad` (R7, R32). -/
def gyroBadMax : ℕ := 2 ^ 32 - 1

/-- The F6 scale, and the microseconds of a second (R7, R77, R124, R177). -/
def million : ℚ := 1000000

/-- `RND`, the OPEN parameter of R7 (decision D1): nothing is known of it, so whatever is proved of the model under
`Rounding.symbolic` holds for every rounding function. DESIGN CHOICE, safe: notes/assumptions/2.md. -/
opaque rnd : ℚ → ℚ

end Sys2Proof.Config
end

