-- ==== Sys2Proof/Syntax.lean ====
section
/-! DEFINITION. The six commands with their operands (spec R72, R74, R75, R91), one constructor of `Instr` each. -/

namespace Sys2Proof

/-- The two command ports (R70). -/
inductive Port where
  | ctl
  | cfgp
  deriving DecidableEq, Repr

/-- A GamepadFrame (R31). The four sticks are signed 16-bit, the triggers unsigned 16-bit, the buttons a 16-bit flag
set. -/
structure GamepadFrame where
  leftX : BitVec 16
  leftY : BitVec 16
  rightX : BitVec 16
  rightY : BitVec 16
  lt : BitVec 16
  rt : BitVec 16
  buttons : BitVec 16
  deriving DecidableEq, Repr

/-- The neutral frame: "default/neutral value is all-zero" (R31). -/
def GamepadFrame.neutral : GamepadFrame := ⟨0, 0, 0, 0, 0, 0, 0⟩

/-- What a `TICK` with `rx_valid = 1` carries: the source address and the frame (W3 to W7 of R74). -/
structure Rx where
  src : Word
  frame : GamepadFrame
  deriving DecidableEq, Repr

/-- What a `TICK` with `gyro_valid = 1` carries: the three F6 words W8 to W10 of R74. -/
structure GyroWords where
  roll : Word
  pitch : Word
  yaw : Word
  deriving DecidableEq, Repr

/-- The WS3CTL command set (R72). A `TICK` whose `rx_valid` (or `gyro_valid`) is 0 has no frame (no sample): those
payload words are ignored whatever they hold (R74, D38). -/
inductive Instr where
  /-- `INIT` (R90) -/
  | init
  /-- `TICK` (R91) -/
  | tick (now : BitVec 64) (rx : Option Rx) (gyro : Option GyroWords)
  /-- `DISABLE` (R95) -/
  | disable
  /-- `CFGBEGIN` (R96) -/
  | cfgbegin
  /-- `CFGWR` (R97) -/
  | cfgwr (idx : BitVec 5) (value : Word)
  /-- `CFGEND` (R98) -/
  | cfgend
  deriving DecidableEq, Repr

end Sys2Proof
end

