-- ==== Sys2Proof/Machine/State.lean ====
section
/-! DEFINITION. The state of the block as plain data (spec R20 to R46), its value after power-on reset (R45, R210), and
the two closed types of reasons a step can stop. -/

namespace Sys2Proof.Machine

/-- One value for each of the channels 0 to 5 (R21, R94). -/
structure Six (α : Type) where
  c0 : α
  c1 : α
  c2 : α
  c3 : α
  c4 : α
  c5 : α
  deriving DecidableEq, Repr

/-- The three stabilizer axes (`NAXIS`, R6). -/
inductive Axis where
  | roll
  | pitch
  | yaw
  deriving DecidableEq, Repr

/-- One value for each stabilizer axis (R24). -/
structure Axes (α : Type) where
  roll : α
  pitch : α
  yaw : α
  deriving DecidableEq, Repr

/-- The ControlState (R26). -/
inductive Ctl where
  /-- AwaitingFirstContact, code 0 -/
  | await
  /-- Armed, code 1 -/
  | armed
  /-- Failsafe, code 2 -/
  | failsafe
  deriving DecidableEq, Repr

/-- A configuration bank: `NCFG = 32` words of 32 bits (R35, R50). -/
abbrev Bank := Vector Word 32

/-- The output events (R44). -/
inductive Event where
  | setFreq (hz : ℚ)
  | drvEnable
  | drvDisable
  /-- `Write(pw[0..6])`: channels 0 to 5, then channel 6 -/
  | write (pw : Six ℚ) (pw6 : ℚ)
  deriving DecidableEq, Repr

/-- Which `RND` the machine has (R7, D1): its default, the identity, or the OPEN parameter itself, of which nothing is
known. DESIGN CHOICE: notes/assumptions/2.md. -/
inductive Rounding where
  | exact
  | symbolic
  deriving DecidableEq, Repr

/-- The complete state (R20), with the words waiting on the two command ports (R70) and the order in which the ports'
commands are taken (R58). -/
structure State where
  /-- `cur[0..5]` (R21) -/
  cur : Six ℚ
  /-- `cur[6]`, the LED channel (R21) -/
  cur6 : ℚ
  /-- `I[a]` (R24) -/
  integ : Axes ℚ
  /-- `eprev[a]` (R24) -/
  eprev : Axes ℚ
  /-- `in_hold` (R25) -/
  inHold : Bool
  /-- `ctl` (R26) -/
  ctl : Ctl
  /-- `en` (R27) -/
  en : Bool
  /-- `last_seen`, microseconds (R29) -/
  lastSeen : BitVec 64
  /-- `latest` (R30) -/
  latest : GamepadFrame
  /-- `gyro_bad` (R32) -/
  gyroBad : ℕ
  /-- `cause` (R33) -/
  cause : BitVec 4
  /-- `led_on` (R34) -/
  ledOn : Bool
  /-- `prev_btn` (R34) -/
  prevBtn : Bool
  /-- `SHADOW[0..31]` (R35) -/
  shadow : Bank
  /-- `P[0..31]` (R35) -/
  active : Bank
  /-- `cfg_busy` (R35) -/
  cfgBusy : Bool
  /-- `cfg_dirty` (R35) -/
  cfgDirty : Bool
  /-- `cfg_err` (R41) -/
  cfgErr : Bool
  /-- `cmd_err` (R41) -/
  cmdErr : Bool
  /-- `seq_err` (R41) -/
  seqErr : Bool
  /-- the output trace, oldest event first (R44) -/
  trace : List Event
  /-- which `RND` (R7); the model's own field, which no command changes -/
  rounding : Rounding
  /-- the words sent on port CTL and not yet taken (R70) -/
  ctlIn : List Word
  /-- the words sent on port CFGP and not yet taken (R70) -/
  cfgIn : List Word
  /-- the ports in the order in which their commands are taken (R58); the model's own field -/
  turns : List Port
  deriving DecidableEq, Repr

/-- The all-zero bank (R45). -/
def Bank.zero : Bank := Vector.replicate 32 0

/-- The block after power-on reset (R45, R210): nothing is configured, enabled or waiting, and no event is emitted. -/
def State.reset : State where
  cur := ⟨0, 0, 0, 0, 0, 0⟩
  cur6 := 0
  integ := ⟨0, 0, 0⟩
  eprev := ⟨0, 0, 0⟩
  inHold := false
  ctl := .await
  en := false
  lastSeen := 0
  latest := GamepadFrame.neutral
  gyroBad := 0
  cause := 0
  ledOn := false
  prevBtn := false
  shadow := Bank.zero
  active := Bank.zero
  cfgBusy := false
  cfgDirty := false
  cfgErr := false
  cmdErr := false
  seqErr := false
  trace := []
  rounding := .exact
  ctlIn := []
  cfgIn := []
  turns := []

/-- The reasons a step can stop the machine: there is none, "nothing in this block is treated as fault or stuck"
(93_implementation_defined.md), so the type has no constructor. -/
inductive Fault where
  deriving DecidableEq, Repr

/-- The reasons a step can be refused. -/
inductive Refusal where
  /-- Raised by an arm of `exec` for an instruction without a meaning; no arm raises it now. Safe: the model stops. -/
  | notModelled (mnemonic : String)
  deriving DecidableEq, Repr

/-- What a step of this machine answers. -/
abbrev Result := Host.Outcome State Fault Refusal

end Sys2Proof.Machine
end

