-- ==== Sys2Proof/Machine/Operands.lean ====
section
/-! DEFINITION. The operand formats (spec R76 to R80), the arithmetic primitives (R10), the stick predicates (R135), and
the decoded values of a configuration bank (R36, R37). -/

namespace Sys2Proof.Machine

/-! ## Formats -/

/-- Format I32: two's complement (R76). -/
def i32 (w : Word) : ℤ := w.toInt

/-- Format F6: a signed count of millionths (R77). -/
def f6 (w : Word) : ℚ := (w.toInt : ℚ) / Config.million

/-- Format RAW32: the bits as an unsigned integer (R78). -/
def raw32 (w : Word) : ℕ := w.toNat

/-- `enc_F6(v) = floor(v × 10^6)`, "defined only when the result is in range" (R77). -/
def encF6 (v : ℚ) : Option Word :=
  let n := (v * Config.million).floor
  if -2 ^ 31 ≤ n ∧ n < 2 ^ 31 then some (BitVec.ofInt 32 n) else none

/-- The three rates in degrees per second (R80). -/
def gyroRates (g : GyroWords) : Axes ℚ := ⟨f6 g.roll, f6 g.pitch, f6 g.yaw⟩

/-! ## Primitives (R10) -/

/-- `clamp(v, lo, hi)` (R10). -/
def clamp (v lo hi : ℚ) : ℚ := if v < lo then lo else if hi < v then hi else v

/-- `RND` applied (R7). -/
def Rounding.apply (r : Rounding) (v : ℚ) : ℚ :=
  match r with
  | .exact => v
  | .symbolic => Config.rnd v

/-- The value of channel `i`. -/
def Six.get {α : Type} (v : Six α) (i : Fin 6) : α :=
  match i with
  | 0 => v.c0
  | 1 => v.c1
  | 2 => v.c2
  | 3 => v.c3
  | 4 => v.c4
  | 5 => v.c5

/-- Channel by channel. -/
def Six.ofFn {α : Type} (f : Fin 6 → α) : Six α := ⟨f 0, f 1, f 2, f 3, f 4, f 5⟩

/-- The same value on all six channels. -/
def Six.const {α : Type} (v : α) : Six α := ⟨v, v, v, v, v, v⟩

/-- The value of axis `a`. -/
def Axes.get {α : Type} (v : Axes α) (a : Axis) : α :=
  match a with
  | .roll => v.roll
  | .pitch => v.pitch
  | .yaw => v.yaw

/-- The same value on all three axes. -/
def Axes.const {α : Type} (v : α) : Axes α := ⟨v, v, v⟩

/-- Axis by axis. -/
def Axes.ofFn {α : Type} (f : Axis → α) : Axes α := ⟨f .roll, f .pitch, f .yaw⟩

/-! ## The configuration words (R36) -/

/-- `CfgRead(bank, idx)` (R10). -/
def Bank.read (B : Bank) (i : Fin 32) : Word := B[i]

/-- `CfgWrite(bank, idx, w)` (R10). -/
def Bank.write (B : Bank) (i : Fin 32) (w : Word) : Bank := B.set i w

/-- index 0, the `MODE` word (R37) -/
def Bank.mode (B : Bank) : Word := B.read 0
/-- index 1, stick counts -/
def Bank.deadzone (B : Bank) : ℤ := i32 (B.read 1)
/-- index 2, µs -/
def Bank.pwmMin (B : Bank) : ℚ := f6 (B.read 2)
/-- index 3, µs; no rule reads it (R36, R38) -/
def Bank.pwmNeutral (B : Bank) : ℚ := f6 (B.read 3)
/-- index 4, µs -/
def Bank.pwmNormalMax (B : Bank) : ℚ := f6 (B.read 4)
/-- index 5, µs -/
def Bank.pwmBoostMax (B : Bank) : ℚ := f6 (B.read 5)
/-- index 6, Hz -/
def Bank.pwmFrequency (B : Bank) : ℚ := f6 (B.read 6)
/-- index 7 -/
def Bank.smoothingFactorHorizontal (B : Bank) : ℚ := f6 (B.read 7)
/-- index 8 -/
def Bank.smoothingFactorVertical (B : Bank) : ℚ := f6 (B.read 8)
/-- index 9, µs per (deg/s) -/
def Bank.kpRoll (B : Bank) : ℚ := f6 (B.read 9)
/-- index 10, µs per (deg/s) -/
def Bank.kpYaw (B : Bank) : ℚ := f6 (B.read 10)
/-- index 11, deg/s -/
def Bank.yawThresholdDps (B : Bank) : ℚ := f6 (B.read 11)
/-- index 12, µs per (deg/s) -/
def Bank.yawGain (B : Bank) : ℚ := f6 (B.read 12)
/-- index 13, s -/
def Bank.connectionTimeoutSeconds (B : Bank) : ℚ := f6 (B.read 13)
/-- index 14, s -/
def Bank.loopPeriod (B : Bank) : ℚ := f6 (B.read 14)
/-- index 15, an opaque address, compared for equality only (R78) -/
def Bank.peerAddr (B : Bank) : Word := B.read 15
/-- index 16, µs -/
def Bank.ledOnUs (B : Bank) : ℚ := f6 (B.read 16)
/-- index 17, µs -/
def Bank.ledOffUs (B : Bank) : ℚ := f6 (B.read 17)
/-- index 18, µs per second -/
def Bank.maxAccel (B : Bank) : ℤ := i32 (B.read 18)
/-- index 19 -/
def Bank.smoothingFactorDecelHorizontal (B : Bank) : ℚ := f6 (B.read 19)
/-- index 20 -/
def Bank.smoothingFactorDecelVertical (B : Bank) : ℚ := f6 (B.read 20)
/-- index 21, µs per deg -/
def Bank.kiRoll (B : Bank) : ℚ := f6 (B.read 21)
/-- index 22, µs per (deg/s²) -/
def Bank.kdRoll (B : Bank) : ℚ := f6 (B.read 22)
/-- index 23, µs per (deg/s) -/
def Bank.kpPitch (B : Bank) : ℚ := f6 (B.read 23)
/-- index 24, µs per deg -/
def Bank.kiPitch (B : Bank) : ℚ := f6 (B.read 24)
/-- index 25, µs per (deg/s²) -/
def Bank.kdPitch (B : Bank) : ℚ := f6 (B.read 25)
/-- index 26, µs per deg -/
def Bank.kiYaw (B : Bank) : ℚ := f6 (B.read 26)
/-- index 27, µs per (deg/s²) -/
def Bank.kdYaw (B : Bank) : ℚ := f6 (B.read 27)
/-- index 28, deg -/
def Bank.pidILimit (B : Bank) : ℚ := f6 (B.read 28)
/-- index 29, ticks -/
def Bank.gyroFailLimit (B : Bank) : ℤ := i32 (B.read 29)

/-- `kp[a]` (R150). -/
def Bank.kp (B : Bank) : Axis → ℚ
  | .roll => B.kpRoll
  | .pitch => B.kpPitch
  | .yaw => B.kpYaw

/-- `ki[a]` (R150). -/
def Bank.ki (B : Bank) : Axis → ℚ
  | .roll => B.kiRoll
  | .pitch => B.kiPitch
  | .yaw => B.kiYaw

/-- `kd[a]` (R150). -/
def Bank.kd (B : Bank) : Axis → ℚ
  | .roll => B.kdRoll
  | .pitch => B.kdPitch
  | .yaw => B.kdYaw

/-! ## The `MODE` fields (R37) -/

/-- bit 0: 1 = `PidWithHold` -/
def Bank.stabPid (B : Bank) : Bool := B.mode.getLsbD 0
/-- bit 1: 1 = `QuadraticResponse` -/
def Bank.curveQuadratic (B : Bank) : Bool := B.mode.getLsbD 1
/-- bit 2: 1 = asymmetric smoothing -/
def Bank.smoothAsym (B : Bank) : Bool := B.mode.getLsbD 2
/-- bit 3: 1 = hard rate limit -/
def Bank.rateLimitEn (B : Bank) : Bool := B.mode.getLsbD 3
/-- bit 4: 1 = the first Failsafe transition stops the engine -/
def Bank.failsafeFatal (B : Bank) : Bool := B.mode.getLsbD 4
/-- bit 5: 1 = any source address is allow-listed -/
def Bank.peerAny (B : Bank) : Bool := B.mode.getLsbD 5
/-- bits 11:8: the designated bit of `buttons` -/
def Bank.ledButtonBit (B : Bank) : ℕ := (B.mode.extractLsb' 8 4).toNat

/-! ## Validity of a bank (R40) -/

/-- V1: the reserved fields of `MODE` are 0. -/
def Bank.v1 (B : Bank) : Bool := B.mode.extractLsb' 6 2 == 0 && B.mode.extractLsb' 12 20 == 0
/-- V2 -/
def Bank.v2 (B : Bank) : Bool := decide (0 ≤ B.deadzone ∧ B.deadzone < Config.stickMax)
/-- V3 -/
def Bank.v3 (B : Bank) : Bool :=
  decide (0 ≤ B.pwmMin ∧ B.pwmMin ≤ B.pwmNormalMax ∧ B.pwmNormalMax ≤ B.pwmBoostMax)
/-- V4 -/
def Bank.v4 (B : Bank) : Bool := decide (0 < B.pwmFrequency ∧ B.pwmBoostMax * B.pwmFrequency ≤ Config.million)
/-- V5 -/
def Bank.v5 (B : Bank) : Bool :=
  decide (0 ≤ B.ledOffUs ∧ 0 ≤ B.ledOnUs ∧ B.ledOffUs * B.pwmFrequency ≤ Config.million ∧
    B.ledOnUs * B.pwmFrequency ≤ Config.million)
/-- One smoothing factor of V6 lies in [0, 1]. -/
def isFactor (f : ℚ) : Bool := decide (0 ≤ f ∧ f ≤ 1)
/-- V6 -/
def Bank.v6 (B : Bank) : Bool :=
  isFactor B.smoothingFactorHorizontal && isFactor B.smoothingFactorVertical &&
    isFactor B.smoothingFactorDecelHorizontal && isFactor B.smoothingFactorDecelVertical
/-- V7 -/
def Bank.v7 (B : Bank) : Bool := decide (0 ≤ B.connectionTimeoutSeconds ∧ 0 < B.loopPeriod)
/-- V8 -/
def Bank.v8 (B : Bank) : Bool :=
  decide (0 ≤ B.yawThresholdDps ∧ 0 ≤ B.pidILimit ∧ 0 ≤ B.maxAccel ∧ 0 ≤ B.gyroFailLimit)

/-- `cfg_valid(B)`: V1 to V8 together (R40). -/
def cfgValid (B : Bank) : Bool := B.v1 && B.v2 && B.v3 && B.v4 && B.v5 && B.v6 && B.v7 && B.v8

/-! ## Stick values (R135) -/

/-- `mag(v) = min(abs(v), 32767)` (R135). -/
def mag (v : BitVec 16) : ℤ := min |v.toInt| Config.stickMax

/-- `active(v)`: beyond the deadzone (R135, R152). -/
def active (P : Bank) (v : BitVec 16) : Bool := decide (P.deadzone < mag v)

/-- `sgn(v)` (R135). -/
def sgn (v : BitVec 16) : ℤ := if 0 < v.toInt then 1 else if v.toInt < 0 then -1 else 0

end Sys2Proof.Machine
end

