-- ==== Sys2Proof/Machine/Flags.lean ====
section
/-! DEFINITION. The sticky status flags and the status word (spec R41, R42, R187). -/

namespace Sys2Proof.Machine

/-- `refuse(cmd_err)` (R10, R81). -/
def State.refuseCmd (s : State) : State := { s with cmdErr := true }

/-- `refuse(seq_err)` (R10, R187). -/
def State.refuseSeq (s : State) : State := { s with seqErr := true }

/-- `cfg_err <- 1` (R55, R90). -/
def State.flagCfg (s : State) : State := { s with cfgErr := true }

/-- The two-bit code of `ctl` (R26). -/
def Ctl.code : Ctl → BitVec 2
  | .await => 0
  | .armed => 1
  | .failsafe => 2

/-- The status word of the status port, "a pure function of the state" (R41): from bit 31 down, 16 reserved bits,
`cause`, reserved, `seq_err`, `cmd_err`, `cfg_err`, reserved, `cfg_dirty`, `cfg_busy`, `in_hold`, `led_on`, `en`,
`ctl`. -/
def statusWord (s : State) : Word :=
  (0 : BitVec 16) ++ s.cause ++ (0 : BitVec 1) ++ BitVec.ofBool s.seqErr ++ BitVec.ofBool s.cmdErr ++
    BitVec.ofBool s.cfgErr ++ (0 : BitVec 1) ++ BitVec.ofBool s.cfgDirty ++ BitVec.ofBool s.cfgBusy ++
    BitVec.ofBool s.inHold ++ BitVec.ofBool s.ledOn ++ BitVec.ofBool s.en ++ s.ctl.code

/-! ## Cause codes (R186) -/

/-- `CAUSE_NONE` -/
def causeNone : BitVec 4 := 0
/-- `CAUSE_LINK_TIMEOUT` -/
def causeLinkTimeout : BitVec 4 := 1
/-- `CAUSE_GYRO_FAIL` -/
def causeGyroFail : BitVec 4 := 2
/-- `CAUSE_DISABLE` -/
def causeDisable : BitVec 4 := 4
/-- `CAUSE_FATAL`, added to the cause of the entry under the fatal policy -/
def causeFatal : BitVec 4 := 8

end Sys2Proof.Machine
end

