-- ==== Sys2Proof/Machine/Ops.lean ====
section
/-! DEFINITION. The named operations that the commands and the stages share: the output trace, the two banks and the
snapshot, the safe outputs, shutdown, Failsafe entry and the return to Armed. -/

namespace Sys2Proof.Machine

/-- `emit E` (R10, R44). -/
def State.emit (s : State) (e : Event) : State := { s with trace := s.trace ++ [e] }

/-- `Write(cur[0..6])` of the present channel registers (R44, R176). -/
def State.writeEvent (s : State) : Event := .write s.cur s.cur6

/-! ## Configuration banks -/

/-- `CfgWrite(SHADOW, idx, w)` (R97). -/
def State.writeShadow (s : State) (idx : BitVec 5) (w : Word) : State :=
  { s with shadow := s.shadow.write idx.toFin w }

/-- `P <- SHADOW`, all 32 words at once (R54, R55). -/
def State.takeShadow (s : State) : State := { s with active := s.shadow }

/-- The snapshot attempt takes a bank (the `return true` of R55). -/
def State.snapshotTakes (s : State) : Bool := !s.cfgBusy && s.cfgDirty && cfgValid s.shadow

/-- The state after `snapshot()` (R55): nothing where there is nothing to take or a bracket is open; otherwise
`cfg_dirty` is consumed, and the bank is taken whole or `cfg_err` is set. -/
def State.snapshot (s : State) : State :=
  if s.cfgBusy = true ∨ s.cfgDirty = false then s
  else
    let s1 : State := { s with cfgDirty := false }
    if cfgValid s.shadow then s1.takeShadow else s1.flagCfg

/-! ## Stabilizer registers and safe outputs -/

/-- `zero_stab()` (R150). `RND` is "applied to every value written to" these registers (R7), so to the zero too. -/
def State.zeroStab (s : State) : State :=
  { s with integ := .const (s.rounding.apply 0), eprev := .const (s.rounding.apply 0) }

/-- What `INIT`, `DISABLE` and Failsafe entry do alike (the columns of R45): thrusters to `pwm_min` (through
`RND`, R7), the LED off, the cached frame and the stabilizer cleared. -/
def State.makeSafe (s : State) : State :=
  { s.zeroStab with
    cur := .const (s.rounding.apply s.active.pwmMin)
    cur6 := s.active.ledOffUs
    inHold := false
    ledOn := false
    prevBtn := false
    latest := GamepadFrame.neutral }

/-- What `INIT` and `DISABLE` do alike beyond `makeSafe` (R45): the supervisor back to AwaitingFirstContact. -/
def State.resetSupervisor (s : State) (c : BitVec 4) : State :=
  { s with ctl := .await, lastSeen := 0, gyroBad := 0, cause := c }

/-- `en <- b` (R27). -/
def State.setEnabled (s : State) (b : Bool) : State := { s with en := b }

/-- `shutdown(c)` (R95): the safe values are written out first, then the driver is disabled. -/
def shutdown (c : BitVec 4) (s : State) : State :=
  let s1 := s.makeSafe.resetSupervisor c
  ((s1.emit s1.writeEvent).emit .drvDisable).setEnabled false

/-! ## The exception of this block: Failsafe entry and return -/

/-- The state changes of Failsafe entry that both terminal policies share (R126, R191). -/
def failsafeState (c : BitVec 4) (s : State) : State :=
  { s.makeSafe with ctl := .failsafe, cause := c }

/-- `enter_failsafe(c)` (R126, R127, R191): the safe state is entered at once and the cause saved; under
`MODE.failsafe_fatal` the engine is then shut down with cause `8 + c`. -/
def enterFailsafe (c : BitVec 4) (s : State) : State :=
  if s.active.failsafeFatal then shutdown (causeFatal + c) (failsafeState c s) else failsafeState c s

/-- What an accepted frame does: first contact, or the return from Failsafe (R122, R192). Nothing is restored, because
the entry saved nothing but the cause. -/
def acceptFrame (now : BitVec 64) (f : GamepadFrame) (s : State) : State :=
  { s with lastSeen := now, latest := f, ctl := .armed }

/-! ## The command ports -/

/-- The words waiting on a port (R70). -/
def State.stream (s : State) (p : Port) : List Word :=
  match p with
  | .ctl => s.ctlIn
  | .cfgp => s.cfgIn

/-- The words waiting on port `p` become `ws`. -/
def State.setStream (s : State) (p : Port) (ws : List Word) : State :=
  match p with
  | .ctl => { s with ctlIn := ws }
  | .cfgp => { s with cfgIn := ws }

/-- `n` words of port `p` are taken off its stream (R81). -/
def State.consume (s : State) (p : Port) (n : Nat) : State := s.setStream p ((s.stream p).drop n)

/-- The first turn of the arbitration is used up (R58). -/
def State.nextTurn (s : State) : State := { s with turns := s.turns.tail }

/-! ## What the environment does between commands (R198); not part of the step -/

/-- An agent sends words on a port: they arrive behind those already waiting. -/
def State.deliver (s : State) (p : Port) (ws : List Word) : State := s.setStream p (s.stream p ++ ws)

/-- The arbitration gives a later turn to port `p` (R58). -/
def State.grant (s : State) (p : Port) : State := { s with turns := s.turns ++ [p] }

/-- The power-on reset line (R210): every element of the block at its reset value, commands in flight lost. The values
are those of the power-on column of R45; no rule writes them, so `RND` has no part in them (notes/assumptions/2.md).
Which `RND` the machine has is no state of the block and stays. -/
def State.powerOn (s : State) : State := { State.reset with rounding := s.rounding }

end Sys2Proof.Machine
end

