-- ==== Sys2Proof/Machine/CfgCommands.lean ====
section
/-! DEFINITION. The configuration commands `CFGBEGIN`, `CFGWR` and `CFGEND` (spec R56, R96 to R98). -/

namespace Sys2Proof.Machine

/-- `CFGBEGIN` (R96). -/
def execCfgbegin (s : State) : Result :=
  if s.cfgBusy = true then .next s.refuseSeq else .next { s with cfgBusy := true }

/-- `CFGWR idx, value` (R97): no validity check is made at write time. -/
def execCfgwr (idx : BitVec 5) (value : Word) (s : State) : Result :=
  if s.cfgBusy = false then .next s.refuseSeq else .next (s.writeShadow idx value)

/-- `CFGEND` (R98). -/
def execCfgend (s : State) : Result :=
  if s.cfgBusy = false then .next s.refuseSeq else .next { s with cfgBusy := false, cfgDirty := true }

end Sys2Proof.Machine
end

