-- ==== Sys2Proof/Machine/Lifecycle.lean ====
section
/-! DEFINITION. The lifecycle commands `INIT` and `DISABLE` (spec R90, R95, R211, R214). -/

namespace Sys2Proof.Machine

/-- The effects of an accepted `INIT`: safe registers, then the three events, the driver enabled last (R90). -/
def startEngine (s : State) : State :=
  let s1 := (s.makeSafe.resetSupervisor causeNone).setEnabled true
  ((s1.emit (.setFreq s1.active.pwmFrequency)).emit s1.writeEvent).emit .drvEnable

/-- `INIT` (R90). -/
def execInit (s : State) : Result :=
  if s.en = true then .next s.refuseSeq
  else
    let s1 := s.snapshot
    if cfgValid s1.active then .next (startEngine s1) else .next s1.flagCfg

/-- `DISABLE` (R95). -/
def execDisable (s : State) : Result :=
  if s.en = false then .next s.refuseSeq else .next (shutdown causeDisable s)

end Sys2Proof.Machine
end

