-- ==== Sys2Proof/Machine/Led.lean ====
section
/-! DEFINITION. `TICK` stage S2, LED: the edge-toggle of the indicator channel (spec R180 to R183). -/

namespace Sys2Proof.Machine

/-- The designated bit of the cached frame's buttons (R181). -/
def ledButton (P : Bank) (f : GamepadFrame) : Bool := f.buttons.getLsbD P.ledButtonBit

/-- `led_on` after a tick that sees the button at `b`: toggled on a rising edge (R181). -/
def ledAfter (b prevBtn ledOn : Bool) : Bool := if b = true ∧ prevBtn = false then !ledOn else ledOn

/-- The held value of the LED channel (R181, R182). -/
def ledValue (P : Bank) (ledOn : Bool) : ℚ := if ledOn then P.ledOnUs else P.ledOffUs

/-- Stage S2 (R181). -/
def stageLed (s : State) : State :=
  let b := ledButton s.active s.latest
  let on := ledAfter b s.prevBtn s.ledOn
  { s with ledOn := on, prevBtn := b, cur6 := ledValue s.active on }

end Sys2Proof.Machine
end

