-- ==== Sys2Proof/Machine/Liveness.lean ====
section
/-! DEFINITION. `TICK` stage S1, LIVE: the liveness supervisor (spec R120 to R131). -/

namespace Sys2Proof.Machine

/-- The allow-list (R121): equality on all 32 bits of the opaque address, or the wildcard. -/
def allowListed (P : Bank) (src : Word) : Bool := P.peerAny || src == P.peerAddr

/-- `accepted` (R121): this tick carries a frame, and its source is allow-listed. -/
def accepted (P : Bank) (rx : Option Rx) : Bool :=
  match rx with
  | none => false
  | some r => allowListed P r.src

/-- The first part of S1: an accepted frame is taken, any other changes nothing (R121, R122, R189). -/
def receive (now : BitVec 64) (rx : Option Rx) (s : State) : State :=
  match rx with
  | none => s
  | some r => if allowListed s.active r.src then acceptFrame now r.frame s else s

/-- The gyro failure counter (R123). -/
def countGyro (valid : Bool) (s : State) : State :=
  { s with gyroBad := if valid then 0 else min (s.gyroBad + 1) Config.gyroBadMax }

/-- `elapsed` in microseconds: a `now` that runs backwards gives 0 (R124). -/
def elapsed (now lastSeen : BitVec 64) : ℕ :=
  if lastSeen.toNat ≤ now.toNat then now.toNat - lastSeen.toNat else 0

/-- The strict comparison of R124. -/
def linkTimedOut (P : Bank) (now lastSeen : BitVec 64) : Bool :=
  decide (P.connectionTimeoutSeconds * Config.million < (elapsed now lastSeen : ℚ))

/-- The gyro failure condition of R125. -/
def gyroFailed (P : Bank) (gyroBad : ℕ) : Bool := decide (P.gyroFailLimit < (gyroBad : ℤ))

/-- The last part of S1: while Armed, the timeout first, then the gyro failure; at most one entry (R130, R190). -/
def supervise (now : BitVec 64) (s : State) : State :=
  if s.ctl = .armed then
    if linkTimedOut s.active now s.lastSeen then enterFailsafe causeLinkTimeout s
    else if gyroFailed s.active s.gyroBad then enterFailsafe causeGyroFail s
    else s
  else s

/-- Stage S1 (R130); "the order of the parts is part of the rule". -/
def stageLive (now : BitVec 64) (rx : Option Rx) (gyroValid : Bool) (s : State) : State :=
  supervise now (countGyro gyroValid (receive now rx s))

end Sys2Proof.Machine
end

