-- ==== Sys2Proof/Machine/Mixer.lean ====
section
/-! DEFINITION. `TICK` stage S4, MIX: the thrust mixer (spec R135 to R146). -/

namespace Sys2Proof.Machine

/-- `span = 32767 − deadzone` (R136). -/
def stickSpan (P : Bank) : ℚ := (Config.stickMax : ℚ) - P.deadzone

/-- `(m − dz) / span` (R137). -/
def stickFraction (P : Bank) (m : ℤ) : ℚ := ((m : ℚ) - P.deadzone) / stickSpan P

/-- `lin(m, lo, hi)` (R137). -/
def lin (P : Bank) (m : ℤ) (lo hi : ℚ) : ℚ := lo + stickFraction P m * (hi - lo)

/-- The pair a rotation drives: `DP = {0,3}` or `DN = {1,2}` (R138). -/
def rotationPair (v : BitVec 16) : List (Fin 6) := if 0 < v.toInt then [0, 3] else [1, 2]

/-- The pair a translation drives: `SP = {0,2}` or `SN = {1,3}` (R138). -/
def translationPair (v : BitVec 16) : List (Fin 6) := if 0 < v.toInt then [0, 2] else [1, 3]

/-- The contribution of one stick to channel `i` (R139, R140). -/
def contribution (P : Bank) (v : BitVec 16) (pair : List (Fin 6)) (i : Fin 6) : ℚ :=
  if active P v ∧ i ∈ pair then lin P (mag v) P.pwmMin P.pwmNormalMax else P.pwmMin

/-- `boost_channel`, the fixed sign table (R143); used only where both signs are ±1. -/
def boostChannel (rot tr : ℤ) : Fin 6 :=
  if 0 < rot then (if 0 < tr then 0 else 3) else (if 0 < tr then 2 else 1)

/-- The boost of channel `i` (R142): proportional to the weaker magnitude, on the one channel of the sign table, while
both sticks are active. -/
def boost (P : Bank) (rot tr : BitVec 16) (i : Fin 6) : ℚ :=
  if active P rot ∧ active P tr ∧ i = boostChannel (sgn rot) (sgn tr) then
    stickFraction P (min (mag rot) (mag tr)) * (P.pwmBoostMax - P.pwmNormalMax)
  else 0

/-- `raw[i]` of a horizontal channel: the larger contribution, then the boost (R141, R142). -/
def rawHorizontal (P : Bank) (f : GamepadFrame) (i : Fin 6) : ℚ :=
  max (contribution P f.leftX (rotationPair f.leftX) i) (contribution P f.rightX (translationPair f.rightX) i) +
    boost P f.leftX f.rightX i

/-- The response to a normalised stick value: linear, or its square (R144, R145). -/
def response (P : Bank) (t : ℚ) : ℚ := if P.curveQuadratic then t * t else t

/-- `raw[4] = raw[5]`: the signed value is compared, so that no reverse thrust exists (R144, R145). -/
def rawForward (P : Bank) (v : BitVec 16) : ℚ :=
  if P.deadzone < v.toInt then P.pwmMin + response P (stickFraction P v.toInt) * (P.pwmBoostMax - P.pwmMin)
  else P.pwmMin

/-- Stage S4 (R136): it reads the cached frame and `P`, and writes nothing. -/
def stageMix (P : Bank) (f : GamepadFrame) : Six ℚ where
  c0 := rawHorizontal P f 0
  c1 := rawHorizontal P f 1
  c2 := rawHorizontal P f 2
  c3 := rawHorizontal P f 3
  c4 := rawForward P f.rightY
  c5 := rawForward P f.rightY

end Sys2Proof.Machine
end

