-- ==== Sys2Proof/Machine/Shaper.lean ====
section
/-! DEFINITION. `TICK` stages S6, SHAPE, and S7, WRITE: the output shaper (spec R170 to R178), the duty cycle (R177) and
the bit-level form of the output events (R79). -/

namespace Sys2Proof.Machine

/-- `lim = max_accel × loop_period` (R171). -/
def rateLimit (P : Bank) : ℚ := (P.maxAccel : ℚ) * P.loopPeriod

/-- Step 1: the requested delta, limited where `MODE.rate_limit_en = 1` (R171). -/
def limitedDelta (P : Bank) (d : ℚ) : ℚ := if P.rateLimitEn then clamp d (-rateLimit P) (rateLimit P) else d

/-- The base factor of channel `i`'s group (R172). -/
def factorUp (P : Bank) (i : Fin 6) : ℚ :=
  if i ≤ 3 then P.smoothingFactorHorizontal else P.smoothingFactorVertical

/-- The decelerating factor of channel `i`'s group (R173). -/
def factorDown (P : Bank) (i : Fin 6) : ℚ :=
  if i ≤ 3 then P.smoothingFactorDecelHorizontal else P.smoothingFactorDecelVertical

/-- The factor that a delta `d` is taken with (R172, R173). -/
def smoothingFactor (P : Bank) (i : Fin 6) (d : ℚ) : ℚ :=
  if P.smoothAsym = true ∧ d < 0 then factorDown P i else factorUp P i

/-- The new `cur[i]` of one channel (R174, R175). -/
def shapeChannel (r : Rounding) (P : Bank) (i : Fin 6) (cur tgt : ℚ) : ℚ :=
  let d := limitedDelta P (tgt - cur)
  r.apply (clamp (cur + d * smoothingFactor P i d) P.pwmMin P.pwmBoostMax)

/-- Stage S6 (R175): the channels 0 to 5, each on its own; channel 6 is not touched. -/
def stageShape (tgt : Six ℚ) (s : State) : State :=
  { s with cur := .ofFn fun i => shapeChannel s.rounding s.active i (s.cur.get i) (tgt.get i) }

/-- Stage S7 (R176). -/
def stageWrite (s : State) : State := s.emit s.writeEvent

/-- The duty cycle of a pulse width (R177), part of the driver's contract. -/
def duty (P : Bank) (pw : ℚ) : ℚ := pw * P.pwmFrequency / Config.million

/-- The bit-level form of an event where the spec gives one (R79): one F6 word, or seven, channel 0 first. -/
def eventWords : Event → Option (List Word)
  | .setFreq hz => [hz].mapM encF6
  | .write pw pw6 => [pw.c0, pw.c1, pw.c2, pw.c3, pw.c4, pw.c5, pw6].mapM encF6
  | .drvEnable => none
  | .drvDisable => none

end Sys2Proof.Machine
end

