-- ==== Sys2Proof/Machine/Stabilizer.lean ====
section
/-! DEFINITION. `TICK` stages S3, STAB, and S5, COMB: the stabilization controller (spec R150 to R166, R128). -/

namespace Sys2Proof.Machine

/-- No correction. -/
def noCorrection : Six ℚ := .const 0

/-- Corrections accumulate by plain addition (R156). -/
def Six.add (a b : Six ℚ) : Six ℚ := .ofFn fun i => a.get i + b.get i

/-- `s[i] × u` on the horizontal channels, `s = (−1, +1, +1, −1)` (R151). -/
def alternating (u : ℚ) : Six ℚ := ⟨-u, u, u, -u, 0, 0⟩

/-- The pitch output on the forward/reverse group (R162). -/
def differential (u : ℚ) : Six ℚ := ⟨0, 0, 0, 0, u, -u⟩

/-- The roll and yaw terms outside hold: only while the translation stick is active (R152 to R154, R161). -/
def strafeTerm (P : Bank) (f : GamepadFrame) (u : ℚ) : Six ℚ :=
  if active P f.rightX then alternating u else noCorrection

/-- `c` of trigger (b), clamped to ±400 (R155). -/
def yawHoldCorrection (P : Bank) (yawRate : ℚ) : ℚ :=
  clamp (-yawRate * P.yawGain) (-Config.yawHoldClamp) Config.yawHoldClamp

/-- `yaw_hold()`, trigger (b): added to the one pair that opposes the rotation (R155). -/
def yawHoldTerm (P : Bank) (f : GamepadFrame) (yawRate : ℚ) : Six ℚ :=
  if active P f.leftX = false ∧ P.yawThresholdDps < |yawRate| then
    let c := yawHoldCorrection P yawRate
    if 0 < c then ⟨c, 0, 0, c, 0, 0⟩ else if c < 0 then ⟨0, -c, -c, 0, 0, 0⟩ else noCorrection
  else noCorrection

/-! ## Proportional baseline -/

/-- The corrections of the proportional mode (R153 to R156). -/
def proportionalCorr (P : Bank) (f : GamepadFrame) (rate : Axes ℚ) : Six ℚ :=
  (strafeTerm P f (P.kpRoll * rate.roll + P.kpYaw * rate.yaw)).add (yawHoldTerm P f rate.yaw)

/-- S3 with `MODE.stab_mode = 0`: the stabilizer registers and `in_hold` are zeroed (R150, R153, R163). -/
def stabProportional (gyro : Option (Axes ℚ)) (s : State) : State × Six ℚ :=
  let s1 : State := { s.zeroStab with inHold := false }
  match gyro with
  | none => (s1, noCorrection)
  | some rate => (s1, proportionalCorr s.active s.latest rate)

/-! ## PID with position hold -/

/-- `hold`: none of the four sticks is active (R157). -/
def holdDetected (P : Bank) (f : GamepadFrame) : Bool :=
  !active P f.leftX && !active P f.leftY && !active P f.rightX && !active P f.rightY

/-- The new integral of one axis (R159). -/
def pidIntegral (r : Rounding) (P : Bank) (e i : ℚ) : ℚ :=
  r.apply (clamp (i + e * P.loopPeriod) (-P.pidILimit) P.pidILimit)

/-- The derivative `D` of one axis (R159). -/
def pidDerivative (P : Bank) (e ep : ℚ) : ℚ := (e - ep) / P.loopPeriod

/-- The output of one axis, from the integral just written (R159). -/
def pidOutput (P : Bank) (a : Axis) (e i d : ℚ) : ℚ := P.kp a * e + P.ki a * i + P.kd a * d

/-- `I` and `eprev` after the PID steps of all three axes (R159). -/
def pidRegisters (rate : Axes ℚ) (s : State) : State :=
  { s with
    integ := .ofFn fun a => pidIntegral s.rounding s.active (rate.get a) (s.integ.get a)
    eprev := .ofFn fun a => s.rounding.apply (rate.get a) }

/-- `u[a]` of the PID steps taken from state `s` (R159). -/
def pidOutputs (rate : Axes ℚ) (s : State) : Axes ℚ :=
  .ofFn fun a =>
    pidOutput s.active a (rate.get a) (pidIntegral s.rounding s.active (rate.get a) (s.integ.get a))
      (pidDerivative s.active (rate.get a) (s.eprev.get a))

/-- Where the PID outputs go, in hold (R162) and outside it (R161). -/
def pidCorr (P : Bank) (f : GamepadFrame) (hold : Bool) (u rate : Axes ℚ) : Six ℚ :=
  if hold then (alternating (u.roll + u.yaw)).add (differential u.pitch)
  else (strafeTerm P f (u.roll + u.yaw)).add (yawHoldTerm P f rate.yaw)

/-- Entering or leaving position-hold zeroes the registers before the PID step; then `in_hold <- hold` (R158). -/
def updateHold (s : State) : State :=
  let hold := holdDetected s.active s.latest
  let s1 := if hold ≠ s.inHold then s.zeroStab else s
  { s1 with inHold := hold }

/-- S3 with `MODE.stab_mode = 1` (R150, R157 to R163). -/
def stabPidHold (gyro : Option (Axes ℚ)) (s : State) : State × Six ℚ :=
  let s1 := updateHold s
  match gyro with
  | none => (s1.zeroStab, noCorrection)
  | some rate => (pidRegisters rate s1, pidCorr s1.active s1.latest s1.inHold (pidOutputs rate s1) rate)

/-- Stage S3 (R150): the new state and `corr[0..5]`. -/
def stageStab (gyro : Option (Axes ℚ)) (s : State) : State × Six ℚ :=
  if s.active.stabPid then stabPidHold gyro s else stabProportional gyro s

/-! ## Combine -/

/-- The Armed case of stage S5 (R164). -/
def combine (P : Bank) (raw corr : Six ℚ) : Six ℚ :=
  .ofFn fun i => clamp (raw.get i + corr.get i) P.pwmMin P.pwmBoostMax

/-- The other case of stage S5: every target is `pwm_min` (R128, R164). -/
def safeTargets (P : Bank) : Six ℚ := .const P.pwmMin

end Sys2Proof.Machine
end

