-- ==== Sys2Proof/Machine/Tick.lean ====
section
/-! DEFINITION. The `TICK` command: stage S0 and the stage sequence (spec R91 to R94). -/

namespace Sys2Proof.Machine

/-- Stage S0, SNAP (R93): the snapshot, and `SetFreq` where it changed the frequency. -/
def stageSnap (s : State) : State :=
  let s1 := s.snapshot
  if s.snapshotTakes = true ∧ s1.active.pwmFrequency ≠ s.active.pwmFrequency then
    s1.emit (.setFreq s1.active.pwmFrequency)
  else s1

/-- Stages S3 to S5: the state after the stabilizer, and `tgt[0..5]`. They run the Armed path or the other (R92). -/
def stageTargets (gyro : Option (Axes ℚ)) (s : State) : State × Six ℚ :=
  if s.ctl = .armed then
    let r := stageStab gyro s
    (r.1, combine r.1.active (stageMix r.1.active r.1.latest) r.2)
  else (s, safeTargets s.active)

/-- Stages S2 to S7 (R92). -/
def stagesAfterLive (gyro : Option (Axes ℚ)) (s : State) : State :=
  let r := stageTargets gyro (stageLed s)
  stageWrite (stageShape r.2 r.1)

/-- The stages of a `TICK` with `en = 1` (R92). A fatal stop in S1 has cleared `en` and ends the tick (R127). -/
def runTick (now : BitVec 64) (rx : Option Rx) (gyro : Option (Axes ℚ)) (s : State) : State :=
  let s1 := stageLive now rx gyro.isSome (stageSnap s)
  if s1.en then stagesAfterLive gyro s1 else s1

/-- `TICK` (R91). -/
def execTick (now : BitVec 64) (rx : Option Rx) (gyro : Option GyroWords) (s : State) : Result :=
  if s.en = false then .next s.refuseSeq else .next (runTick now rx (gyro.map gyroRates) s)

end Sys2Proof.Machine
end

