-- ==== Sys2Proof/Machine/Dispatch.lean ====
section
/-! DEFINITION. One arm per command (spec R72). -/

namespace Sys2Proof.Machine

def exec (i : Instr) (s : State) : Host.Outcome State Fault Refusal :=
  match i with
  | .init => Sys2Proof.Machine.execInit s
  | .tick now rx gyro => Sys2Proof.Machine.execTick now rx gyro s
  | .disable => Sys2Proof.Machine.execDisable s
  | .cfgbegin => Sys2Proof.Machine.execCfgbegin s
  | .cfgwr idx value => Sys2Proof.Machine.execCfgwr idx value s
  | .cfgend => Sys2Proof.Machine.execCfgend s

end Sys2Proof.Machine
end

