-- ==== Sys2Proof/WellFormed.lean ====
section
/-! DEFINITION. When a command may stand on a port. Operand ranges need no check: every field of `Instr` has exactly
the width its encoding has (spec R74, R75), so that an operand out of range cannot be written. -/

namespace Sys2Proof

/-- The port a command belongs to (the "port" column of R72; R195). -/
def Instr.port : Instr → Port
  | .init => .ctl
  | .tick _ _ _ => .ctl
  | .disable => .ctl
  | .cfgbegin => .cfgp
  | .cfgwr _ _ => .cfgp
  | .cfgend => .cfgp

/-- The one condition on a command: it stands on its own port. "A command on the wrong port is illegal" (R70, R106). -/
def Instr.wellFormedOn (p : Port) (i : Instr) : Bool := i.port == p

end Sys2Proof
end

