-- ==== Sys2Proof/Decode.lean ====
section
/-! DEFINITION. The decoder of one port's word stream (spec R70 to R75, R80 to R82) and, after it, the encoder. -/

namespace Sys2Proof

/-! ## The header word -/

/-- The assigned opcodes (R72). -/
inductive Opcode where
  | init
  | tick
  | disable
  | cfgbegin
  | cfgwr
  | cfgend
  deriving DecidableEq, Repr

/-- The opcode byte of each command (R72). -/
def Opcode.code : Opcode → BitVec 8
  | .init => 0x01
  | .tick => 0x02
  | .disable => 0x03
  | .cfgbegin => 0x04
  | .cfgwr => 0x05
  | .cfgend => 0x06

/-- The port of each command (R72). -/
def Opcode.port : Opcode → Port
  | .init => .ctl
  | .tick => .ctl
  | .disable => .ctl
  | .cfgbegin => .cfgp
  | .cfgwr => .cfgp
  | .cfgend => .cfgp

/-- How many payload words follow the header; "depends only on the opcode" (R70, R82). -/
def Opcode.payload : Opcode → Nat
  | .tick => 10
  | .cfgwr => 1
  | .init => 0
  | .disable => 0
  | .cfgbegin => 0
  | .cfgend => 0

/-- The bits of `arg` that a field uses; every other bit of `arg` must be 0 (R71, R73 to R75). -/
def Opcode.argFields : Opcode → BitVec 24
  | .tick => 0x000003
  | .cfgwr => 0x00001F
  | .init => 0
  | .disable => 0
  | .cfgbegin => 0
  | .cfgend => 0

/-- `opcode`, bits 31:24 of a header (R71). -/
def headerOpcode (w : Word) : BitVec 8 := w.extractLsb' 24 8

/-- `arg`, bits 23:0 of a header (R71). -/
def headerArg (w : Word) : BitVec 24 := w.extractLsb' 0 24

/-- The command an opcode byte selects; 0x00 and 0x07 to 0xFF are unassigned (R72). -/
def lookupOpcode (b : BitVec 8) : Option Opcode :=
  if b = 0x01 then some .init
  else if b = 0x02 then some .tick
  else if b = 0x03 then some .disable
  else if b = 0x04 then some .cfgbegin
  else if b = 0x05 then some .cfgwr
  else if b = 0x06 then some .cfgend
  else none

/-- Why a word is illegal (R81). The block shows none of these names: each one is `refuse(cmd_err)`. -/
inductive Reject where
  /-- the opcode is 0x00 or 0x07 to 0xFF -/
  | unassignedOpcode
  /-- the opcode belongs to the other port -/
  | wrongPort
  /-- a must-be-zero bit of `arg` is 1 -/
  | reservedArgBit
  /-- a `TICK` with `rx_valid = 1` has `W7[31:16] ≠ 0` -/
  | reservedButtonsBit
  deriving DecidableEq, Repr

/-- What a port's stream begins with: a command or an illegal word, each with the number of words it takes up, or a
command that has not wholly arrived (R70: it has no effect yet). -/
inductive Decoded where
  | command (i : Instr) (used : Nat)
  | illegal (why : Reject) (used : Nat)
  | incomplete
  deriving DecidableEq, Repr

/-- The check of a header word on port `p` (R81). -/
def decodeHeader (p : Port) (w : Word) : Except Reject Opcode :=
  match lookupOpcode (headerOpcode w) with
  | none => .error .unassignedOpcode
  | some op =>
    if op.port ≠ p then .error .wrongPort
    else if headerArg w &&& ~~~op.argFields ≠ 0 then .error .reservedArgBit
    else .ok op

/-! ## Operand assembly (R80) -/

/-- Bits 15:0 of a word. -/
def lowHalf (w : Word) : BitVec 16 := w.extractLsb' 0 16

/-- Bits 31:16 of a word. -/
def highHalf (w : Word) : BitVec 16 := w.extractLsb' 16 16

/-- The frame of W4 to W7 (R74, R80). -/
def frameOfWords (w4 w5 w6 w7 : Word) : GamepadFrame where
  leftX := lowHalf w4
  leftY := highHalf w4
  rightX := lowHalf w5
  rightY := highHalf w5
  lt := lowHalf w6
  rt := highHalf w6
  buttons := lowHalf w7

/-- `rx_valid`, bit 0 of a `TICK` header (R74). -/
def headerRxValid (w0 : Word) : Bool := w0.getLsbD 0

/-- `gyro_valid`, bit 1 of a `TICK` header (R74). -/
def headerGyroValid (w0 : Word) : Bool := w0.getLsbD 1

/-- The command of the eleven words of a `TICK` whose header is legal (R74, R80, R81). -/
def decodeTick (w0 w1 w2 w3 w4 w5 w6 w7 w8 w9 w10 : Word) : Decoded :=
  if headerRxValid w0 = true ∧ highHalf w7 ≠ 0 then .illegal .reservedButtonsBit 11
  else
    .command
      (.tick (w2 ++ w1)
        (if headerRxValid w0 then some ⟨w3, frameOfWords w4 w5 w6 w7⟩ else none)
        (if headerGyroValid w0 then some ⟨w8, w9, w10⟩ else none))
      11

/-- The decoder of port `p` (R81): total on any stream. An illegal header takes up one word. -/
def decode (p : Port) : List Word → Decoded
  | [] => .incomplete
  | w0 :: payload =>
    match decodeHeader p w0 with
    | .error why => .illegal why 1
    | .ok .init => .command .init 1
    | .ok .disable => .command .disable 1
    | .ok .cfgbegin => .command .cfgbegin 1
    | .ok .cfgend => .command .cfgend 1
    | .ok .cfgwr =>
      match payload with
      | w1 :: _ => .command (.cfgwr (w0.extractLsb' 0 5) w1) 2
      | [] => .incomplete
    | .ok .tick =>
      match payload with
      | w1 :: w2 :: w3 :: w4 :: w5 :: w6 :: w7 :: w8 :: w9 :: w10 :: _ =>
        decodeTick w0 w1 w2 w3 w4 w5 w6 w7 w8 w9 w10
      | _ => .incomplete

/-! ## The encoder -/

/-- `opcode ++ arg` (R71). -/
def header (op : Opcode) (arg : BitVec 24) : Word := op.code ++ arg

/-- Two 16-bit values in one word, the first-named in bits 15:0 (R52, R74). -/
def packHalves (lo hi : BitVec 16) : Word := hi ++ lo

/-- W3 to W7: zero where there is no frame (R74, R83). -/
def encodeRx : Option Rx → List Word
  | none => [0, 0, 0, 0, 0]
  | some r =>
    [r.src, packHalves r.frame.leftX r.frame.leftY, packHalves r.frame.rightX r.frame.rightY,
      packHalves r.frame.lt r.frame.rt, packHalves r.frame.buttons 0]

/-- W8 to W10: zero where there is no sample (R74, R83). -/
def encodeGyro : Option GyroWords → List Word
  | none => [0, 0, 0]
  | some g => [g.roll, g.pitch, g.yaw]

/-- The `arg` field of a `TICK`: bit 1 `gyro_valid`, bit 0 `rx_valid` (R74). -/
def tickArg (gyroValid rxValid : Bool) : BitVec 24 :=
  (0 : BitVec 22) ++ BitVec.ofBool gyroValid ++ BitVec.ofBool rxValid

/-- The words of a command, header first (R73 to R75). -/
def encode : Instr → List Word
  | .init => [header .init 0]
  | .disable => [header .disable 0]
  | .cfgbegin => [header .cfgbegin 0]
  | .cfgend => [header .cfgend 0]
  | .cfgwr idx value => [header .cfgwr ((0 : BitVec 19) ++ idx), value]
  | .tick now rx gyro =>
    header .tick (tickArg gyro.isSome rx.isSome) :: now.extractLsb' 0 32 :: now.extractLsb' 32 32 ::
      (encodeRx rx ++ encodeGyro gyro)

/-! ## The opcode table's numbering of an instruction's bits -/

/-- The words of the command whose first `nbits` bits are `w`, bit 0 the least significant bit of the first word, the
bits above `nbits` zero: as many words as the header's opcode says (R70), one where the opcode is unassigned. -/
def tableWords (nbits w : Nat) : List Word :=
  let v := w % 2 ^ nbits
  let word (k : Nat) : Word := BitVec.ofNat 32 (v >>> (32 * k))
  match lookupOpcode (headerOpcode (word 0)) with
  | none => [word 0]
  | some op => (List.range (1 + op.payload)).map word

/-- The port that admits the command whose header is `w` (R72), port CTL where the opcode is unassigned. -/
def tablePort (w : Word) : Port :=
  match lookupOpcode (headerOpcode w) with
  | none => .ctl
  | some op => op.port

/-- What the decoder reads from the words of a row of the opcode table, on the row's port. -/
def decodeTableWord (nbits w : Nat) : Option Instr :=
  let ws := tableWords nbits w
  match decode (tablePort (ws.headD 0)) ws with
  | .command i _ => some i
  | .illegal _ _ => none
  | .incomplete => none

end Sys2Proof
end

