-- ==== Sys2Proof/Machine/Fetch.lean ====
section
/-! DEFINITION. Taking the next command off the ports (spec R58, R70, R81). -/

namespace Sys2Proof.Machine

/-- What the next turn of the arbitration finds. -/
inductive Fetched where
  /-- no port has a turn: between commands nothing advances (R28) -/
  | idle
  /-- the port has no complete command waiting: it "has no effect" (R70) and the turn is used up -/
  | waiting (s : State)
  /-- an illegal word, taken off the stream (R81) -/
  | illegal (why : Reject) (s : State)
  /-- a command, taken off the stream -/
  | command (i : Instr) (s : State)
  deriving DecidableEq, Repr

/-- The command of the port whose turn it is, and the state with the turn and the words used up. -/
def fetch (s : State) : Fetched :=
  match s.turns with
  | [] => .idle
  | p :: _ =>
    match decode p (s.stream p) with
    | .incomplete => .waiting s.nextTurn
    | .illegal why n => .illegal why (s.nextTurn.consume p n)
    | .command i n => .command i (s.nextTurn.consume p n)

/-- `s` with the words `ws` first in line on port `p` and the next turn given to `p`. -/
def State.withCommandWords (s : State) (p : Port) (ws : List Word) : State :=
  { s.setStream p (ws ++ s.stream p) with turns := p :: s.turns }

end Sys2Proof.Machine
end

