-- ==== Sys2Proof/Machine/Step.lean ====
section
/-! DEFINITION. One step of the block: the next command of the total order (spec R12, R58), whole and atomic. -/

namespace Sys2Proof.Machine

/-- One step: the command of the port whose turn it is; an illegal word is `refuse(cmd_err)` (R81, R99). -/
def step (s : State) : Host.Outcome State Fault Refusal :=
  match fetch s with
  | .idle => .next s
  | .waiting s1 => .next s1
  | .illegal _ s1 => .next s1.refuseCmd
  | .command i s1 => exec i s1

/-- `s` with the command of an opcode-table row delivered on the row's port, and that port's turn next. -/
def State.withFetchWord (s : State) (nbits w : Nat) : State :=
  s.withCommandWords (tablePort ((tableWords nbits w).headD 0)) (tableWords nbits w)

end Sys2Proof.Machine
end

