-- ==== Sys2Proof/Machine/FrameDecoder.lean ====
section
/-! DEFINITION. The gamepad-frame decoder, the environment's front-end (spec R85, R110 to R117): a pure, total function
from a line of text to a GamepadFrame. -/

namespace Sys2Proof.Machine

/-- The substrings between commas; a line without a comma is one token (R111). -/
def splitCommas : List Char → List (List Char)
  | [] => [[]]
  | c :: cs =>
    if c = ',' then [] :: splitCommas cs
    else
      match splitCommas cs with
      | [] => [[c]]
      | t :: ts => (c :: t) :: ts

/-- The whitespace that is trimmed: space, tab, CR, LF (R111, D34). -/
def isBlank (c : Char) : Bool := c == ' ' || c == '\t' || c == '\r' || c == '\n'

/-- A token without leading and trailing whitespace (R111). -/
def trim (t : List Char) : List Char := ((t.dropWhile isBlank).reverse.dropWhile isBlank).reverse

/-- The value of `[0-9]+`. -/
def parseDigits (t : List Char) : Option ℕ :=
  if t.isEmpty then none
  else t.foldl (fun acc c => acc.bind fun n => if c.isDigit then some (10 * n + (c.toNat - 48)) else none) (some 0)

/-- The value of `[+-]?[0-9]+` (R111). -/
def parseSigned (t : List Char) : Option ℤ :=
  match t with
  | '+' :: ds => (parseDigits ds).map fun n : ℕ => (n : ℤ)
  | '-' :: ds => (parseDigits ds).map fun n : ℕ => -(n : ℤ)
  | ds => (parseDigits ds).map fun n : ℕ => (n : ℤ)

/-- The value of a trimmed token: an empty one is 0 (R112), one that is no integer or does not fit 32 signed bits has
none (R113). -/
def tokenValue (t : List Char) : Option ℤ :=
  if t.isEmpty then some 0
  else
    match parseSigned t with
    | none => none
    | some v => if -2 ^ 31 ≤ v ∧ v ≤ 2 ^ 31 - 1 then some v else none

/-- Whether a value may stand in field `k`: sticks in the signed 16-bit range, triggers in their unsigned container,
any value for the buttons, which are truncated (R111, R115). -/
def fieldAdmits (k : ℕ) (v : ℤ) : Bool :=
  if k ≤ 3 then decide (Config.stickMin ≤ v ∧ v ≤ Config.stickMax)
  else if k ≤ 5 then decide (0 ≤ v ∧ v ≤ 65535)
  else true

/-- Field `k` of the frame takes `v`, buttons modulo 2^16 (R111, R115). -/
def setField (k : ℕ) (v : ℤ) (f : GamepadFrame) : GamepadFrame :=
  let w := BitVec.ofInt 16 v
  match k with
  | 0 => { f with leftX := w }
  | 1 => { f with leftY := w }
  | 2 => { f with rightX := w }
  | 3 => { f with rightY := w }
  | 4 => { f with lt := w }
  | 5 => { f with rt := w }
  | _ => { f with buttons := w }

/-- The tokens from field `k` on, written into `f`; none where one of them is bad (R111). -/
def decodeTokens (k : ℕ) (toks : List (List Char)) (f : GamepadFrame) : Option GamepadFrame :=
  match toks with
  | [] => some f
  | t :: rest =>
    match tokenValue (trim t) with
    | none => none
    | some v => if fieldAdmits k v then decodeTokens (k + 1) rest (setField k v f) else none

/-- `decode(line)` on the line's characters: at most 7 tokens; one bad token gives the neutral frame (R111, R113). -/
def decodeChars (line : List Char) : GamepadFrame :=
  (decodeTokens 0 ((splitCommas line).take Config.ntok) GamepadFrame.neutral).getD GamepadFrame.neutral

/-- `decode(line: string) -> GamepadFrame` (R111). -/
def decodeLine (line : String) : GamepadFrame := decodeChars line.toList

/-- The `TICK` that the tick agent issues for a datagram: always with a frame, also for a malformed line (R117). -/
def tickOfDatagram (now : BitVec 64) (src : Word) (line : String) (gyro : Option GyroWords) : Instr :=
  .tick now (some ⟨src, decodeLine line⟩) gyro

end Sys2Proof.Machine
end

