-- ==== Sys2Proof/Machine/Assembler.lean ====
section
/-! DEFINITION. The textual form of a command stream (spec R83) and the pseudo-commands (R84): the test bench's
notation, outside the block. -/

namespace Sys2Proof.Machine

/-! ## Names and values -/

/-- The format of a configuration word (R36, R76 to R78). -/
inductive WordFormat where
  | i32
  | f6
  | raw32
  deriving DecidableEq, Repr

/-- The names and formats of the configuration words, in the order of their indices (R36); 30 and 31 have no name. -/
def cfgNames : List (String × WordFormat) :=
  [("MODE", .raw32), ("deadzone", .i32), ("pwm_min", .f6), ("pwm_neutral", .f6), ("pwm_normal_max", .f6),
    ("pwm_boost_max", .f6), ("pwm_frequency", .f6), ("smoothing_factor_horizontal", .f6),
    ("smoothing_factor_vertical", .f6), ("kp_roll", .f6), ("kp_yaw", .f6), ("yaw_threshold_dps", .f6),
    ("yaw_gain", .f6), ("connection_timeout_seconds", .f6), ("loop_period", .f6), ("peer_addr", .raw32),
    ("led_on_us", .f6), ("led_off_us", .f6), ("max_accel", .i32), ("smoothing_factor_decel_horizontal", .f6),
    ("smoothing_factor_decel_vertical", .f6), ("ki_roll", .f6), ("kd_roll", .f6), ("kp_pitch", .f6),
    ("ki_pitch", .f6), ("kd_pitch", .f6), ("ki_yaw", .f6), ("kd_yaw", .f6), ("pid_i_limit", .f6),
    ("gyro_fail_limit", .i32)]

/-- The format of the word at an index; the reserved ones are RAW32 (R36). -/
def formatOf (idx : ℕ) : WordFormat := ((cfgNames[idx]?).map Prod.snd).getD .raw32

/-- An integer in a range. -/
def intIn (lo hi : ℤ) (v : ℚ) : Option ℤ := if v.den = 1 ∧ lo ≤ v.num ∧ v.num ≤ hi then some v.num else none

/-- A value in the unit of its word (R83): `enc_F6`, two's complement, or as is. -/
def encodeValue (fmt : WordFormat) (v : ℚ) : Option Word :=
  match fmt with
  | .f6 => encF6 v
  | .i32 => (intIn (-2 ^ 31) (2 ^ 31 - 1) v).map (BitVec.ofInt 32)
  | .raw32 => (intIn 0 (2 ^ 32 - 1) v).map (BitVec.ofInt 32)

/-- The value of a hexadecimal digit. -/
def hexDigit (c : Char) : Option ℕ :=
  if c.isDigit then some (c.toNat - 48)
  else if 'a' ≤ c ∧ c ≤ 'f' then some (c.toNat - 87)
  else if 'A' ≤ c ∧ c ≤ 'F' then some (c.toNat - 55)
  else none

/-- The value of a run of hexadecimal digits. -/
def parseHex (t : List Char) : Option ℕ :=
  if t.isEmpty then none
  else t.foldl (fun acc c => acc.bind fun n => (hexDigit c).map fun d => 16 * n + d) (some 0)

/-- An unsigned number: decimal, with at most six fractional digits, or hexadecimal after `0x` (R83). -/
def parseUnsigned (t : List Char) : Option ℚ :=
  match t with
  | '0' :: 'x' :: ds => (parseHex ds).map fun n => (n : ℚ)
  | _ =>
    let whole := t.takeWhile (· ≠ '.')
    match t.dropWhile (· ≠ '.') with
    | [] => (parseDigits whole).map fun n => (n : ℚ)
    | _ :: frac =>
      if 6 < frac.length then none
      else
        (parseDigits whole).bind fun n => (parseDigits frac).map fun m => (n : ℚ) + (m : ℚ) / 10 ^ frac.length

/-- A number, with an optional minus sign (R83). -/
def parseNumber (t : List Char) : Option ℚ :=
  match t with
  | '-' :: ds => (parseUnsigned ds).map fun v => -v
  | ds => parseUnsigned ds

/-! ## One line -/

/-- What follows the text `pre`, where the line begins with it. -/
def dropText (pre : List Char) (t : List Char) : Option (List Char) :=
  if t.take pre.length = pre then some (t.drop pre.length) else none

/-- The numbers of a parenthesised list, and what follows it. -/
def parseTuple (t : List Char) : Option (List ℚ × List Char) :=
  match t with
  | '(' :: rest =>
    match rest.dropWhile (· ≠ ')') with
    | ')' :: after => ((splitCommas (rest.takeWhile (· ≠ ')'))).mapM parseNumber).map fun vs => (vs, after)
    | _ => none
  | _ => none

/-- The frame of seven numbers (R83). -/
def frameOfNumbers (vs : List ℚ) : Option GamepadFrame :=
  match vs with
  | [a, b, c, d, e, f, g] => do
    let stick (v : ℚ) := (intIn (-32768) 32767 v).map (BitVec.ofInt 16)
    let unsigned (v : ℚ) := (intIn 0 65535 v).map (BitVec.ofInt 16)
    return ⟨← stick a, ← stick b, ← stick c, ← stick d, ← unsigned e, ← unsigned f, ← unsigned g⟩
  | _ => none

/-- `rx=<src>:(…)` after its comma; none given leaves `rx_valid = 0` (R83). -/
def parseRx (t : List Char) : Option (Option Rx × List Char) :=
  match dropText ",rx=".toList t with
  | none => some (none, t)
  | some rest => do
    let src ← (parseNumber (rest.takeWhile (· ≠ ':'))).bind (encodeValue .raw32)
    let (vs, after) ← parseTuple ((rest.dropWhile (· ≠ ':')).drop 1)
    return (some ⟨src, ← frameOfNumbers vs⟩, after)

/-- `gyro=(…)` after its comma; none given leaves `gyro_valid = 0` (R83). -/
def parseGyro (t : List Char) : Option (Option GyroWords × List Char) :=
  match dropText ",gyro=".toList t with
  | none => some (none, t)
  | some rest => do
    let (vs, after) ← parseTuple rest
    match vs with
    | [a, b, c] => return (some ⟨← encF6 a, ← encF6 b, ← encF6 c⟩, after)
    | _ => none

/-- The operands of a `TICK` line, blanks removed (R83). -/
def parseTick (t : List Char) : Option Instr := do
  let rest ← dropText "t=".toList t
  let now ← (parseNumber (rest.takeWhile (· ≠ ','))).bind (intIn 0 (2 ^ 64 - 1))
  let (rx, after) ← parseRx (rest.dropWhile (· ≠ ','))
  let (gyro, final) ← parseGyro after
  if final.isEmpty then some (.tick (BitVec.ofInt 64 now) rx gyro) else none

/-- The index a `CFGWR` line names, by number or by name (R83). -/
def parseIndex (t : List Char) : Option ℕ :=
  match parseNumber t with
  | some v => (intIn 0 31 v).map Int.toNat
  | none => cfgNames.findIdx? fun n => n.1.toList = t

/-- The operands of a `CFGWR` line, blanks removed (R83). -/
def parseCfgwr (t : List Char) : Option Instr :=
  match splitCommas t with
  | [name, value] => do
    let idx ← parseIndex name
    let w ← (parseNumber value).bind (encodeValue (formatOf idx))
    return .cfgwr (BitVec.ofNat 5 idx) w
  | _ => none

/-- One command without its port prefix: the mnemonic, and the operands with the blanks taken out (R83). -/
def parseCommand (t : List Char) : Option Instr :=
  let mnemonic := t.takeWhile fun c => !isBlank c
  let operands := (t.dropWhile fun c => !isBlank c).filter fun c => !isBlank c
  if operands = [] then
    if mnemonic = "INIT".toList then some .init
    else if mnemonic = "DISABLE".toList then some .disable
    else if mnemonic = "CFGBEGIN".toList then some .cfgbegin
    else if mnemonic = "CFGEND".toList then some .cfgend
    else none
  else if mnemonic = "TICK".toList then parseTick operands
  else if mnemonic = "CFGWR".toList then parseCfgwr operands
  else none

/-- The port a line names, and the rest of it (R83). -/
def parsePrefix (t : List Char) : Option Port × List Char :=
  match dropText "CTL:".toList t, dropText "CFGP:".toList t with
  | some rest, _ => (some .ctl, trim rest)
  | none, some rest => (some .cfgp, trim rest)
  | none, none => (none, t)

/-- One line of a command stream (R83): nothing for a blank or comment line; otherwise the port, the named one or the
one the mnemonic implies, and the words sent on it. `none` where the text is no line of the notation. -/
def assembleLine (line : String) : Option (List (Port × List Word)) :=
  let t := trim (line.toList.takeWhile (· ≠ '#'))
  if t.isEmpty then some []
  else
    let p := parsePrefix t
    (parseCommand p.2).map fun i => [(p.1.getD i.port, encode i)]

/-! ## Pseudo-commands (R84) -/

/-- `CFGLOAD`: one bracket around the writes. -/
def cfgload (ws : List (BitVec 5 × Word)) : List Instr :=
  .cfgbegin :: (ws.map fun w => .cfgwr w.1 w.2) ++ [.cfgend]

/-- `CFGSET n, v`. -/
def cfgset (idx : BitVec 5) (w : Word) : List Instr := [.cfgbegin, .cfgwr idx w, .cfgend]

/-- The named fields of a `MODESET`; the unnamed ones are 0 (R37). -/
structure ModeFields where
  stabMode : Bool := false
  curve : Bool := false
  smoothAsym : Bool := false
  rateLimitEn : Bool := false
  failsafeFatal : Bool := false
  peerAny : Bool := false
  ledButtonBit : BitVec 4 := 0
  deriving DecidableEq, Repr

/-- The `MODE` word of the fields (R37). -/
def modeWord (m : ModeFields) : Word :=
  (0 : BitVec 20) ++ m.ledButtonBit ++ (0 : BitVec 2) ++ BitVec.ofBool m.peerAny ++ BitVec.ofBool m.failsafeFatal ++
    BitVec.ofBool m.rateLimitEn ++ BitVec.ofBool m.smoothAsym ++ BitVec.ofBool m.curve ++ BitVec.ofBool m.stabMode

/-- `MODESET field=value, ...`. -/
def modeset (m : ModeFields) : List Instr := cfgset 0 (modeWord m)

/-- `IDLE t`: no frame, a valid all-zero gyro sample. -/
def idle (now : BitVec 64) : Instr := .tick now none (some ⟨0, 0, 0⟩)

/-- `REPEAT n, t0, step { TICK ... }`: `n` copies, at `t0 + k × step`. -/
def repeatTick (n : ℕ) (t0 step : BitVec 64) (rx : Option Rx) (gyro : Option GyroWords) : List Instr :=
  (List.range n).map fun k => .tick (t0 + BitVec.ofNat 64 k * step) rx gyro

end Sys2Proof.Machine
end

