-- ==== Sys2Proof/Safety.lean ====
section
/-! DEFINITION. What counts as a safe state and a safe run, in the words the statements use (spec R22, R24, R57, R129,
R177, R186). -/

namespace Sys2Proof.Safety

open Sys2Proof.Machine

/-- The cause codes that occur (R186). -/
def legalCauses : List (BitVec 4) := [0, 1, 2, 4, 9, 10]

/-- A stabilizer register that was zeroed: 0 as power-on reset leaves it, or a zero written through `RND` (R7); under the
identity, R7's default, both are 0. -/
def Zeroed (r : Rounding) (v : ℚ) : Prop := v = 0 ∨ v = r.apply 0

/-- Nothing of a former session is left: what R129 says of every state that is not Armed. -/
structure Quiet (s : State) : Prop where
  latest : s.latest = GamepadFrame.neutral
  ledOn : s.ledOn = false
  prevBtn : s.prevBtn = false
  inHold : s.inHold = false
  integ : ∀ a, Zeroed s.rounding (s.integ.get a)
  eprev : ∀ a, Zeroed s.rounding (s.eprev.get a)

/-- The control part of the invariant: it holds whatever `RND` is. -/
structure ControlInv (s : State) : Prop where
  /-- R57 (1): the active bank is all zero or was valid when it was taken -/
  bank : s.active = Bank.zero ∨ cfgValid s.active = true
  /-- R57 (1), R90: a running engine has a valid bank -/
  enabled : s.en = true → cfgValid s.active = true
  /-- R45, R95: a stopped engine is in AwaitingFirstContact -/
  stopped : s.en = false → s.ctl = .await
  /-- R129 -/
  quiet : s.ctl ≠ .armed → Quiet s
  /-- R22, R181: channel 6 holds the value that `led_on` names -/
  led : s.cur6 = ledValue s.active s.ledOn
  /-- R32 -/
  gyroBad : s.gyroBad ≤ Config.gyroBadMax
  /-- R186 -/
  cause : s.cause ∈ legalCauses

/-- The range part of the invariant: the thrusters (R22) and the integrals (R24). -/
structure RangeInv (s : State) : Prop where
  cur : ∀ i, s.active.pwmMin ≤ s.cur.get i ∧ s.cur.get i ≤ s.active.pwmBoostMax
  integ : ∀ a, -s.active.pidILimit ≤ s.integ.get a ∧ s.integ.get a ≤ s.active.pidILimit

/-- What R175 asks of a rounding function for a bank `P`: it does not leave the thruster range, nor the range of the
integrals (R165 (4)). -/
structure RoundingKeeps (r : Rounding) (P : Bank) : Prop where
  pulse : ∀ v, P.pwmMin ≤ v → v ≤ P.pwmBoostMax → P.pwmMin ≤ r.apply v ∧ r.apply v ≤ P.pwmBoostMax
  integral : ∀ v, -P.pidILimit ≤ v → v ≤ P.pidILimit → -P.pidILimit ≤ r.apply v ∧ r.apply v ≤ P.pidILimit

/-- The seven pulse widths of a `Write`. -/
def pulses (pw : Six ℚ) (pw6 : ℚ) : List ℚ := [pw.c0, pw.c1, pw.c2, pw.c3, pw.c4, pw.c5, pw6]

/-- The driver's contract on an event, "duty ∈ [0,1]", under the frequency of bank `P` (R177, R200). -/
def legalEvent (P : Bank) (e : Event) : Prop :=
  match e with
  | .write pw pw6 => ∀ v ∈ pulses pw pw6, 0 ≤ duty P v ∧ duty P v ≤ 1
  | .setFreq hz => 0 < hz
  | .drvEnable => True
  | .drvDisable => True

/-- Every thruster at `pwm_min`, as `RND` writes it (R7), and the LED at its off value: the safe outputs of R126 and
R95. -/
def SafeOutputs (s : State) : Prop :=
  (∀ i, s.cur.get i = s.rounding.apply s.active.pwmMin) ∧ s.cur6 = s.active.ledOffUs ∧ s.ledOn = false

/-- The three ways in which R81 lets a header word be illegal on a port, in numbers: the opcode `w[31:24]` is unassigned,
it belongs to the other port, or a must-be-zero bit of `w[23:0]` is 1 (R72 to R75). -/
def headerIllegal (p : Port) (w : Word) : Prop :=
  let opcode := w.toNat / 2 ^ 24
  let arg := w.toNat % 2 ^ 24
  (opcode = 0 ∨ 7 ≤ opcode) ∨
  (p = .ctl ∧ 4 ≤ opcode ∨ p = .cfgp ∧ opcode ≤ 3) ∨
  (opcode = 2 ∧ 4 ≤ arg ∨ opcode = 5 ∧ 32 ≤ arg ∨ opcode ≠ 2 ∧ opcode ≠ 5 ∧ arg ≠ 0)

/-- The state in which the stages after S1 of a `TICK` find the block (R92, R130). -/
def afterLive (now : BitVec 64) (rx : Option Rx) (gyro : Option GyroWords) (s : State) : State :=
  stageLive now rx gyro.isSome (stageSnap s)

/-- The bank in force for a `TICK` or an `INIT` that is taken in state `s` (R55, R93). -/
def bankInForce (s : State) : Bank := s.snapshot.active

/-! ## The grammar of a gamepad frame line, in the words of R111 to R115, apart from the decoder's functions -/

/-- `toks` are "the substrings of line between commas, in order" (R111). -/
def isSplit (line : List Char) (toks : List (List Char)) : Prop :=
  toks ≠ [] ∧ (∀ t ∈ toks, ',' ∉ t) ∧ [','].intercalate toks = line

/-- The whitespace characters: space, tab, CR, LF (R111). -/
def blanks : List Char := [' ', '\t', '\r', '\n']

/-- `t` with leading and trailing whitespace removed is `mid` (R111). -/
def trimsTo (t mid : List Char) : Prop :=
  ∃ pre post, t = pre ++ mid ++ post ∧ (∀ c ∈ pre ++ post, c ∈ blanks) ∧
    ∀ c, mid.head? = some c ∨ mid.getLast? = some c → c ∉ blanks

/-- `ds` matches `[0-9]+` and stands for the natural number `n`. -/
def isNumeral (ds : List Char) (n : ℕ) : Prop :=
  ds ≠ [] ∧ (∀ c ∈ ds, '0' ≤ c ∧ c ≤ '9') ∧ n = Nat.ofDigits 10 (ds.reverse.map fun c => c.toNat - '0'.toNat)

/-- A trimmed token means `v`: 0 if it is empty (R112); otherwise it matches `[+-]?[0-9]+` and its value `v` is in
−2^31 .. 2^31 − 1 (R111). -/
def tokenMeans (t : List Char) (v : ℤ) : Prop :=
  t = [] ∧ v = 0 ∨
  (-2 ^ 31 ≤ v ∧ v ≤ 2 ^ 31 - 1) ∧
    ∃ ds n, isNumeral ds n ∧ (v = n ∧ (t = ds ∨ t = '+' :: ds) ∨ v = -n ∧ t = '-' :: ds)

/-- `v` fits field `k`: a stick the signed 16-bit range, a trigger its unsigned container; the buttons take any value
(R111, R115). -/
def fitsField (k : ℕ) (v : ℤ) : Prop :=
  (k ≤ 3 → -32768 ≤ v ∧ v ≤ 32767) ∧ (k = 4 ∨ k = 5 → 0 ≤ v ∧ v ≤ 65535)

/-- Token `k` is bad: it has no meaning, or one that does not fit its field (R111, R113). -/
def badToken (k : ℕ) (t : List Char) : Prop := ∃ mid, trimsTo t mid ∧ ∀ v, tokenMeans mid v → ¬ fitsField k v

/-- The tokens mean the values `vs`, and every one fits its field (R111). -/
def goodTokens (toks : List (List Char)) (vs : List ℤ) : Prop :=
  toks.length = vs.length ∧
  ∀ k t v, toks[k]? = some t → vs[k]? = some v → (∃ mid, trimsTo t mid ∧ tokenMeans mid v) ∧ fitsField k v

/-- The commands of a list, one after the other; it stops where one of them does not answer a next state. -/
def runCommands (is : List Instr) (s : State) : Result :=
  match is with
  | [] => .next s
  | i :: rest =>
    match exec i s with
    | .next t => runCommands rest t
    | .fault r => .fault r
    | .refused r => .refused r

end Sys2Proof.Safety
end

