-- ==== Sys2Proof/Certificates/Slice0/Obligations.lean ====
section
/-! DEFINITION. The statements for the provers. Each docstring names the rules of the spec that the statement puts in
Lean, and every form, range and refusal it covers. -/

open Sys2Proof Sys2Proof.Machine Sys2Proof.Safety

/-! ## Encoding and decoding -/

/-- On its own port every command decodes back from its words, whatever follows them: no operand bit is dropped
(R70, R73 to R75, R80). -/
def Obligations.DecodeEncodeRoundTrip : Prop :=
  ∀ (p : Port) (i : Instr) (rest : List Word), i.wellFormedOn p = true →
    decode p (encode i ++ rest) = .command i (encode i).length

/-- A command of which only a part has arrived has no effect: the step uses up the turn and nothing else, and the words
stay where they are (R70; that the turn is used up is the model's choice, notes/assumptions/4.md). -/
def Obligations.PartlyDeliveredCommandHasNoEffect : Prop :=
  ∀ (s : State) (p : Port) (r : List Port) (i : Instr) (k : ℕ), i.wellFormedOn p = true → k < (encode i).length →
    s.turns = p :: r → s.stream p = (encode i).take k → step s = .next { s with turns := r }

/-- What is illegal, and what becomes of it (R81). An illegal header is refused with `cmd_err`, one word is consumed and
nothing else changes; a `TICK` with `rx_valid = 1` and `W7[31:16] ≠ 0` is refused so with eleven words consumed; the
all-zero word is illegal on both ports; every other header with its payload is a command, the one that its opcode and the
fields of R74, R75 and R80 name: an operand is the number that its bits stand for, without `rx_valid` the words W3 to W7
are ignored whatever they hold, and without `gyro_valid` W8 to W10. The list `turns` is the model's choice
(notes/assumptions/1.md). -/
def Obligations.IllegalWordsAreRefusedAndConsumed : Prop :=
  (∀ (s : State) (p : Port) (r : List Port) (w : Word) (ws : List Word), s.turns = p :: r → s.stream p = w :: ws →
    headerIllegal p w → step s = .next { s.setStream p ws with turns := r, cmdErr := true }) ∧
  (∀ (s : State) (r : List Port) (w0 w1 w2 w3 w4 w5 w6 w7 w8 w9 w10 : Word) (ws : List Word), s.turns = .ctl :: r →
    s.ctlIn = w0 :: w1 :: w2 :: w3 :: w4 :: w5 :: w6 :: w7 :: w8 :: w9 :: w10 :: ws → ¬ headerIllegal .ctl w0 →
    w0.toNat / 2 ^ 24 = 2 → w0.toNat % 2 = 1 → w7.toNat / 2 ^ 16 ≠ 0 →
    step s = .next { s with ctlIn := ws, turns := r, cmdErr := true }) ∧
  (∀ p : Port, headerIllegal p 0) ∧
  (∀ (p : Port) (w : Word) (ws : List Word), ¬ headerIllegal p w → 10 ≤ ws.length →
    (w.toNat / 2 ^ 24 = 2 ∧ w.toNat % 2 = 1 ∧ (ws[6]?.getD 0).toNat / 2 ^ 16 ≠ 0) ∨
    ∃ i n, decode p (w :: ws) = .command i n ∧ i.wellFormedOn p = true ∧ n = (encode i).length) ∧
  (∀ (p : Port) (w : Word) (ws : List Word), ¬ headerIllegal p w →
    (w.toNat / 2 ^ 24 = 1 → decode p (w :: ws) = .command .init 1) ∧
    (w.toNat / 2 ^ 24 = 3 → decode p (w :: ws) = .command .disable 1) ∧
    (w.toNat / 2 ^ 24 = 4 → decode p (w :: ws) = .command .cfgbegin 1) ∧
    (w.toNat / 2 ^ 24 = 6 → decode p (w :: ws) = .command .cfgend 1) ∧
    (w.toNat / 2 ^ 24 = 5 → ∀ v, decode p (w :: v :: ws) = .command (.cfgwr (BitVec.ofNat 5 (w.toNat % 32)) v) 2)) ∧
  (∀ (w0 w1 w2 w3 w4 w5 w6 w7 w8 w9 w10 : Word) (ws : List Word), ¬ headerIllegal .ctl w0 → w0.toNat / 2 ^ 24 = 2 →
    (w0.toNat % 2 = 1 → w7.toNat / 2 ^ 16 = 0) →
    let lo (w : Word) : BitVec 16 := BitVec.ofNat 16 (w.toNat % 2 ^ 16)
    let hi (w : Word) : BitVec 16 := BitVec.ofNat 16 (w.toNat / 2 ^ 16)
    let rx : Rx := ⟨w3, ⟨lo w4, hi w4, lo w5, hi w5, lo w6, hi w6, lo w7⟩⟩
    decode .ctl (w0 :: w1 :: w2 :: w3 :: w4 :: w5 :: w6 :: w7 :: w8 :: w9 :: w10 :: ws) =
      .command
        (.tick (BitVec.ofNat 64 (w2.toNat * 2 ^ 32 + w1.toNat)) (if w0.toNat % 2 = 1 then some rx else none)
          (if w0.toNat / 2 % 2 = 1 then some ⟨w8, w9, w10⟩ else none))
        11) ∧
  (∀ (w0 w1 w2 w3 w4 w5 w6 w7 w8 w9 w10 v3 v4 v5 v6 v7 v8 v9 v10 : Word) (ws : List Word),
    w0.toNat / 2 ^ 24 = 2 →
    (w0.toNat % 2 = 0 →
      decode .ctl (w0 :: w1 :: w2 :: w3 :: w4 :: w5 :: w6 :: w7 :: w8 :: w9 :: w10 :: ws) =
        decode .ctl (w0 :: w1 :: w2 :: v3 :: v4 :: v5 :: v6 :: v7 :: w8 :: w9 :: w10 :: ws)) ∧
    (w0.toNat / 2 % 2 = 0 →
      decode .ctl (w0 :: w1 :: w2 :: w3 :: w4 :: w5 :: w6 :: w7 :: w8 :: w9 :: w10 :: ws) =
        decode .ctl (w0 :: w1 :: w2 :: w3 :: w4 :: w5 :: w6 :: w7 :: v8 :: v9 :: v10 :: ws))) ∧
  (∀ g : GyroWords, gyroRates g =
    ⟨(g.roll.toInt : ℚ) / 10 ^ 6, (g.pitch.toInt : ℚ) / 10 ^ 6, (g.yaw.toInt : ℚ) / 10 ^ 6⟩)

/-- The worked encodings of R86 and the frame of vector V-E14 mean what the spec says they mean, and the assembler
notation of R83 gives the words of R86. -/
def Obligations.WorkedEncodingsDecode : Prop :=
  decode .cfgp [0x05000005, 0x713FB300] = .command (.cfgwr 5 0x713FB300) 2 ∧ f6 0x713FB300 = 1900 ∧
  decode .cfgp [0x05000001, 0x00001964] = .command (.cfgwr 1 0x00001964) 2 ∧ i32 0x00001964 = 6500 ∧
  decode .cfgp [0x0500000E, 0x00002710] = .command (.cfgwr 14 0x00002710) 2 ∧ f6 0x00002710 = 1 / 100 ∧
  decode .ctl [0x02000003, 0x000F4240, 0, 7, 0, 0x4E200000, 0, 0, 0, 0, 0xFFE91CA0] =
    .command (.tick 1000000 (some ⟨7, ⟨0, 0, 0, 20000, 0, 0, 0⟩⟩) (some ⟨0, 0, 0xFFE91CA0⟩)) 11 ∧
  f6 0xFFE91CA0 = -3 / 2 ∧
  decode .ctl [0x02000002, 0x00004E20, 0, 0, 0, 0, 0, 0, 0, 0, 0] =
    .command (.tick 20000 none (some ⟨0, 0, 0⟩)) 11 ∧
  decode .ctl [0x01000000] = .command .init 1 ∧ decode .ctl [0x03000000] = .command .disable 1 ∧
  decode .cfgp [0x04000000] = .command .cfgbegin 1 ∧ decode .cfgp [0x06000000] = .command .cfgend 1 ∧
  frameOfWords 0x7FFF8000 0x0001FFFF 0xFFFF03FF 0x00008001 =
    ⟨BitVec.ofInt 16 (-32768), 32767, BitVec.ofInt 16 (-1), 1, 1023, 65535, 0x8001⟩ ∧
  assembleLine "CFGWR pwm_boost_max, 1900" = some [(.cfgp, [0x05000005, 0x713FB300])] ∧
  assembleLine "TICK t=1000000, rx=7:(0,0,0,20000,0,0,0), gyro=(0,0,-1.5)" =
    some [(.ctl, [0x02000003, 0x000F4240, 0, 7, 0, 0x4E200000, 0, 0, 0, 0, 0xFFE91CA0])]

/-- When the stream of the port whose turn it is begins with a command, the step is `exec` of that command on the state
with the turn and the command's words used up (R12, R58, R70; that the interleaving of the ports is the list `turns` is
the model's choice, notes/assumptions/1.md). -/
def Obligations.StepRunsDecodedCommand : Prop :=
  ∀ (s : State) (p : Port) (r : List Port) (i : Instr) (n : ℕ), s.turns = p :: r →
    decode p (s.stream p) = .command i n →
    step s = exec i { s.setStream p ((s.stream p).drop n) with turns := r }

/-- A step takes words only from the front of the port whose turn it is; the other port's stream is untouched, and with
no turn given nothing advances (R28, R58). The model's choices in it: that the interleaving of the ports is the list
`turns` (notes/assumptions/1.md), that a turn is used up by its step, also when no complete command waits
(notes/assumptions/4.md), and that a step without a turn answers the same state (notes/assumptions/5.md). -/
def Obligations.EachPortKeepsItsOwnOrder : Prop :=
  (∀ s : State, s.turns = [] → step s = .next s) ∧
  (∀ (s t : State) (r : List Port), s.turns = .ctl :: r → step s = .next t →
    t.turns = r ∧ t.cfgIn = s.cfgIn ∧ ∃ n, t.ctlIn = s.ctlIn.drop n) ∧
  (∀ (s t : State) (r : List Port), s.turns = .cfgp :: r → step s = .next t →
    t.turns = r ∧ t.ctlIn = s.ctlIn ∧ ∃ n, t.cfgIn = s.cfgIn.drop n)

/-- An F6 word stands for its signed value over 10^6; `enc_F6` undoes that, rounds every value of the range down to a
millionth, and is defined nowhere else (R77). -/
def Obligations.F6EncodingRoundsDown : Prop :=
  (∀ w : Word, f6 w = (w.toInt : ℚ) / 10 ^ 6) ∧
  (∀ w : Word, encF6 (f6 w) = some w) ∧
  (∀ v : ℚ, -2 ^ 31 ≤ v * 1000000 → v * 1000000 < 2 ^ 31 →
    ∃ w, encF6 v = some w ∧ f6 w ≤ v ∧ v < f6 w + 1 / 1000000) ∧
  (∀ v : ℚ, v * 1000000 < -2 ^ 31 ∨ 2 ^ 31 ≤ v * 1000000 → encF6 v = none)

/-! ## Reset, status word, flags -/

/-- The power-on reset line: every element of the block takes the power-on column of R45, no event is emitted and words
in flight are lost (R210). -/
def Obligations.PowerOnResetValues : Prop :=
  ∀ s : State, let t := s.powerOn
    (∀ i, t.cur.get i = 0) ∧ t.cur6 = 0 ∧ (∀ a, t.integ.get a = 0 ∧ t.eprev.get a = 0) ∧ t.inHold = false ∧
    t.ctl = .await ∧ t.en = false ∧ t.lastSeen = 0 ∧ t.latest = GamepadFrame.neutral ∧ t.gyroBad = 0 ∧ t.cause = 0 ∧
    t.ledOn = false ∧ t.prevBtn = false ∧ (∀ i : Fin 32, t.shadow.read i = 0 ∧ t.active.read i = 0) ∧
    t.cfgBusy = false ∧ t.cfgDirty = false ∧ t.cfgErr = false ∧ t.cmdErr = false ∧ t.seqErr = false ∧ t.trace = [] ∧
    t.ctlIn = [] ∧ t.cfgIn = [] ∧ State.reset.powerOn = State.reset

/-- The invariants that every step keeps hold after reset. -/
def Obligations.ResetSatisfiesTheInvariants : Prop :=
  ControlInv State.reset ∧ RangeInv State.reset

/-- The status word, field by field, and its three sticky flags: once set, no step clears them (R41). -/
def Obligations.StatusWordAndStickyFlags : Prop :=
  (∀ s : State, let w := statusWord s
    w.extractLsb' 0 2 = s.ctl.code ∧ w.getLsbD 2 = s.en ∧ w.getLsbD 3 = s.ledOn ∧ w.getLsbD 4 = s.inHold ∧
    w.getLsbD 5 = s.cfgBusy ∧ w.getLsbD 6 = s.cfgDirty ∧ w.getLsbD 7 = false ∧ w.getLsbD 8 = s.cfgErr ∧
    w.getLsbD 9 = s.cmdErr ∧ w.getLsbD 10 = s.seqErr ∧ w.getLsbD 11 = false ∧ w.extractLsb' 12 4 = s.cause ∧
    w.extractLsb' 16 16 = 0) ∧
  (Ctl.code .await = 0 ∧ Ctl.code .armed = 1 ∧ Ctl.code .failsafe = 2) ∧
  (∀ s t : State, step s = .next t →
    (s.cfgErr = true → t.cfgErr = true) ∧ (s.cmdErr = true → t.cmdErr = true) ∧ (s.seqErr = true → t.seqErr = true))

/-- The output trace only grows: every step appends to it (R44). -/
def Obligations.OutputTraceIsAppendOnly : Prop :=
  ∀ s t : State, step s = .next t → ∃ es, t.trace = s.trace ++ es

/-! ## Configuration commands and the snapshot -/

/-- `CFGBEGIN` (R96): with no bracket open it sets `cfg_busy` and changes nothing else, and no snapshot is then taken;
with a bracket open it is refused. -/
def Obligations.CfgbeginOpensTheBracket : Prop :=
  encode .cfgbegin = [0x04000000] ∧
  ∀ s : State,
    (s.cfgBusy = false → exec .cfgbegin s = .next { s with cfgBusy := true }) ∧
    (s.cfgBusy = true → exec .cfgbegin s = .next { s with seqErr := true }) ∧
    (s.cfgBusy = true → s.snapshot = s)

/-- `CFGWR` (R97): inside a bracket it writes the one word at its index, any of the 32, unchecked, and changes nothing
else; outside it is refused. -/
def Obligations.CfgwrWritesOneShadowWord : Prop :=
  ∀ (s : State) (idx : BitVec 5) (value : Word),
    (s.cfgBusy = true → ∃ t, exec (.cfgwr idx value) s = .next t ∧ t = { s with shadow := t.shadow } ∧
      ∀ j : Fin 32, t.shadow.read j = if j.val = idx.toNat then value else s.shadow.read j) ∧
    (s.cfgBusy = false → exec (.cfgwr idx value) s = .next { s with seqErr := true })

/-- `CFGEND` (R98): inside a bracket it clears `cfg_busy`, sets `cfg_dirty` and changes nothing else, and the next
snapshot takes the shadow bank if it is valid; outside it is refused. -/
def Obligations.CfgendOffersTheShadowBank : Prop :=
  encode .cfgend = [0x06000000] ∧
  ∀ s : State,
    (s.cfgBusy = true → ∃ t, exec .cfgend s = .next t ∧ t = { s with cfgBusy := false, cfgDirty := true } ∧
      t.snapshot.active = if cfgValid s.shadow then s.shadow else s.active) ∧
    (s.cfgBusy = false → exec .cfgend s = .next { s with seqErr := true })

/-- `snapshot()` (R55): nothing while a bracket is open or nothing is pending; otherwise `cfg_dirty` is consumed and a
valid bank is copied whole, an invalid one only sets `cfg_err`. Its result is whether a bank was taken. Every `TICK` of a
running engine performs it, and so does an `INIT` of a stopped one. -/
def Obligations.SnapshotTakesAWholeValidBank : Prop :=
  ∀ s : State,
    (s.cfgBusy = true ∨ s.cfgDirty = false → s.snapshot = s ∧ s.snapshotTakes = false) ∧
    (s.cfgBusy = false → s.cfgDirty = true → cfgValid s.shadow = true →
      s.snapshot = { s with cfgDirty := false, active := s.shadow } ∧ s.snapshotTakes = true) ∧
    (s.cfgBusy = false → s.cfgDirty = true → cfgValid s.shadow = false →
      s.snapshot = { s with cfgDirty := false, cfgErr := true } ∧ s.snapshotTakes = false) ∧
    (s.en = true → ∀ now rx gyro, ∃ t, exec (.tick now rx gyro) s = .next t ∧
      t.active = s.snapshot.active ∧ t.cfgDirty = s.snapshot.cfgDirty ∧ t.cfgErr = s.snapshot.cfgErr) ∧
    (s.en = false → ∃ t, exec .init s = .next t ∧ t.active = s.snapshot.active ∧ t.cfgDirty = s.snapshot.cfgDirty ∧
      (s.snapshot.cfgErr = true → t.cfgErr = true))

/-- The writer's protocol (R56, R84): the commands of `CFGLOAD`, one after the other from a closed bracket, leave the
shadow bank with each write made in its order, `cfg_dirty` set and everything else as it was. -/
def Obligations.CfgloadPublishesItsWrites : Prop :=
  ∀ (s : State) (ws : List (BitVec 5 × Word)), s.cfgBusy = false →
    runCommands (cfgload ws) s =
      .next { s with cfgDirty := true, shadow := ws.foldl (fun B w => B.write w.1.toFin w.2) s.shadow }

/-- The boot order (R212, R213): after reset, `CFGLOAD` of a valid bank and `INIT` start the engine on that bank, in
AwaitingFirstContact, with the safe outputs and the three events, and leave every other element at its reset value; of an
invalid bank, the shadow bank holds the writes and `INIT` only sets `cfg_err` (and consumes `cfg_dirty`): every other
element is at its reset value and no event is emitted. -/
def Obligations.BootSequenceStartsTheEngine : Prop :=
  ∀ ws : List (BitVec 5 × Word),
    let B := ws.foldl (fun B w => B.write w.1.toFin w.2) Bank.zero
    let cur : Six ℚ := ⟨B.pwmMin, B.pwmMin, B.pwmMin, B.pwmMin, B.pwmMin, B.pwmMin⟩
    (cfgValid B = true → runCommands (cfgload ws ++ [.init]) State.reset = .next
      { State.reset with
        shadow := B, active := B, en := true, cur := cur, cur6 := B.ledOffUs
        trace := [.setFreq B.pwmFrequency, .write cur B.ledOffUs, .drvEnable] }) ∧
    (cfgValid B = false → runCommands (cfgload ws ++ [.init]) State.reset =
      .next { State.reset with shadow := B, cfgErr := true })

/-- `cfg_valid` is V1 to V8 of R40 together, on the decoded values, V1 on the bits of the `MODE` word. The decoded values
are those of the configuration word map (R36): each word by its index, a signed count of millionths (F6), a signed
integer (I32) or the word itself; and the fields of `MODE`, bits of the word of index 0 (R37). -/
def Obligations.ValidityIsTheEightConditions : Prop :=
  (∀ B : Bank,
    let word (i : Fin 32) : ℤ := (B.read i).toInt
    let millionths (i : Fin 32) : ℚ := ((B.read i).toInt : ℚ) / 10 ^ 6
    let modeBit (k : ℕ) : Bool := (B.read 0).toNat / 2 ^ k % 2 = 1
    (B.deadzone = word 1 ∧ B.maxAccel = word 18 ∧ B.gyroFailLimit = word 29 ∧ B.peerAddr = B.read 15) ∧
    (B.pwmMin = millionths 2 ∧ B.pwmNeutral = millionths 3 ∧ B.pwmNormalMax = millionths 4 ∧
      B.pwmBoostMax = millionths 5 ∧ B.pwmFrequency = millionths 6) ∧
    (B.smoothingFactorHorizontal = millionths 7 ∧ B.smoothingFactorVertical = millionths 8 ∧
      B.smoothingFactorDecelHorizontal = millionths 19 ∧ B.smoothingFactorDecelVertical = millionths 20) ∧
    (B.kpRoll = millionths 9 ∧ B.kpYaw = millionths 10 ∧ B.yawThresholdDps = millionths 11 ∧
      B.yawGain = millionths 12 ∧ B.connectionTimeoutSeconds = millionths 13 ∧ B.loopPeriod = millionths 14 ∧
      B.ledOnUs = millionths 16 ∧ B.ledOffUs = millionths 17) ∧
    (B.kiRoll = millionths 21 ∧ B.kdRoll = millionths 22 ∧ B.kpPitch = millionths 23 ∧ B.kiPitch = millionths 24 ∧
      B.kdPitch = millionths 25 ∧ B.kiYaw = millionths 26 ∧ B.kdYaw = millionths 27 ∧ B.pidILimit = millionths 28) ∧
    (B.kp .roll = B.kpRoll ∧ B.kp .pitch = B.kpPitch ∧ B.kp .yaw = B.kpYaw ∧ B.ki .roll = B.kiRoll ∧
      B.ki .pitch = B.kiPitch ∧ B.ki .yaw = B.kiYaw ∧ B.kd .roll = B.kdRoll ∧ B.kd .pitch = B.kdPitch ∧
      B.kd .yaw = B.kdYaw) ∧
    (B.stabPid = modeBit 0 ∧ B.curveQuadratic = modeBit 1 ∧ B.smoothAsym = modeBit 2 ∧ B.rateLimitEn = modeBit 3 ∧
      B.failsafeFatal = modeBit 4 ∧ B.peerAny = modeBit 5 ∧ B.ledButtonBit = (B.read 0).toNat / 2 ^ 8 % 16)) ∧
  ∀ B : Bank, cfgValid B = true ↔
    ((B.read 0).toNat / 2 ^ 6 % 4 = 0 ∧ (B.read 0).toNat / 2 ^ 12 = 0) ∧
    (0 ≤ B.deadzone ∧ B.deadzone < 32767) ∧
    (0 ≤ B.pwmMin ∧ B.pwmMin ≤ B.pwmNormalMax ∧ B.pwmNormalMax ≤ B.pwmBoostMax) ∧
    (0 < B.pwmFrequency ∧ B.pwmBoostMax * B.pwmFrequency ≤ 10 ^ 6) ∧
    (0 ≤ B.ledOffUs ∧ 0 ≤ B.ledOnUs ∧ B.ledOffUs * B.pwmFrequency ≤ 10 ^ 6 ∧ B.ledOnUs * B.pwmFrequency ≤ 10 ^ 6) ∧
    (∀ f ∈ [B.smoothingFactorHorizontal, B.smoothingFactorVertical, B.smoothingFactorDecelHorizontal,
      B.smoothingFactorDecelVertical], 0 ≤ f ∧ f ≤ 1) ∧
    (0 ≤ B.connectionTimeoutSeconds ∧ 0 < B.loopPeriod) ∧
    (0 ≤ B.yawThresholdDps ∧ 0 ≤ B.pidILimit ∧ 0 ≤ B.maxAccel ∧ 0 ≤ B.gyroFailLimit)

/-- Along any run, the active bank is the one the run began with or the shadow bank of an earlier state of the run in
which no bracket was open and in which that bank was valid and published: a half-updated configuration is never seen
(R57 (2), R59). -/
def Obligations.ActiveBankIsNeverTorn : Prop :=
  ∀ (k : ℕ) (s t : State), Sys2Proof.core.run k s = .next t →
    t.active = s.active ∨
    ∃ j u, j ≤ k ∧ Sys2Proof.core.run j s = .next u ∧ u.cfgBusy = false ∧ u.cfgDirty = true ∧
      cfgValid u.shadow = true ∧ t.active = u.shadow

/-- While a bracket is open a `TICK` does not depend on the shadow bank at all: whatever it holds, the tick does the
same and leaves it as it is (R55, R60). -/
def Obligations.OpenBracketHidesTheShadowBank : Prop :=
  ∀ (s : State) (B : Bank) (now : BitVec 64) (rx : Option Rx) (gyro : Option GyroWords), s.cfgBusy = true →
    ∃ t, exec (.tick now rx gyro) s = .next t ∧ t.shadow = s.shadow ∧
      exec (.tick now rx gyro) { s with shadow := B } = .next { t with shadow := B }

/-! ## INIT and DISABLE -/

/-- `INIT` (R90): refused while the engine runs; otherwise the snapshot is attempted, and the engine starts on a valid
active bank with the safe values and the three events in their order, or, without one, only `cfg_err` is set. The values
written to `cur[0..5]`, `I[a]` and `eprev[a]` pass through `RND` (R7), the identity by default. -/
def Obligations.InitStartsTheEngine : Prop :=
  encode .init = [0x01000000] ∧
  ∀ s : State,
    (s.en = true → exec .init s = .next { s with seqErr := true }) ∧
    (s.en = false → cfgValid s.snapshot.active = false → exec .init s = .next { s.snapshot with cfgErr := true }) ∧
    (s.en = false → cfgValid s.snapshot.active = true →
      let P := s.snapshot.active
      let p := s.rounding.apply P.pwmMin
      let z := s.rounding.apply 0
      let cur : Six ℚ := ⟨p, p, p, p, p, p⟩
      exec .init s = .next
        { s.snapshot with
          cur := cur, cur6 := P.ledOffUs, integ := ⟨z, z, z⟩, eprev := ⟨z, z, z⟩, inHold := false, ledOn := false
          prevBtn := false, ctl := .await, lastSeen := 0, latest := GamepadFrame.neutral, gyroBad := 0, cause := 0
          en := true, trace := s.trace ++ [.setFreq P.pwmFrequency, .write cur P.ledOffUs, .drvEnable] })

/-- `DISABLE` (R95): refused while the engine is stopped; otherwise the safe values, the `Write`, then the driver is
disabled, cause 4; banks, bracket bits and sticky flags are untouched. The values written to `cur[0..5]`, `I[a]` and
`eprev[a]` pass through `RND` (R7), the identity by default. -/
def Obligations.DisableShutsTheEngineDown : Prop :=
  encode .disable = [0x03000000] ∧
  ∀ s : State,
    (s.en = false → exec .disable s = .next { s with seqErr := true }) ∧
    (s.en = true →
      let P := s.active
      let p := s.rounding.apply P.pwmMin
      let z := s.rounding.apply 0
      let cur : Six ℚ := ⟨p, p, p, p, p, p⟩
      exec .disable s = .next
        { s with
          cur := cur, cur6 := P.ledOffUs, integ := ⟨z, z, z⟩, eprev := ⟨z, z, z⟩, inHold := false, ledOn := false
          prevBtn := false, ctl := .await, lastSeen := 0, latest := GamepadFrame.neutral, gyroBad := 0, cause := 4
          en := false, trace := s.trace ++ [.write cur P.ledOffUs, .drvDisable] })

/-! ## TICK as a whole -/

/-- A `TICK` with `en = 0` is refused. Every `TICK` of a running engine completes: it emits `SetFreq` when its snapshot
changed the frequency, and then one `Write` of the channel registers it leaves; only a fatal stop adds `DrvDisable`, and
only then is the engine stopped (R91, R93, R127, R176, R200). -/
def Obligations.RunningTickCompletesWithOneWrite : Prop :=
  ∀ (s : State) (now : BitVec 64) (rx : Option Rx) (gyro : Option GyroWords),
    (s.en = false → exec (.tick now rx gyro) s = .next { s with seqErr := true }) ∧
    (s.en = true → ∃ t pre, exec (.tick now rx gyro) s = .next t ∧
      pre = (if s.snapshotTakes = true ∧ (bankInForce s).pwmFrequency ≠ s.active.pwmFrequency
        then [Event.setFreq (bankInForce s).pwmFrequency] else []) ∧
      t.active = bankInForce s ∧
      (t.en = true ∧ t.trace = s.trace ++ pre ++ [.write t.cur t.cur6] ∨
        t.en = false ∧ (bankInForce s).failsafeFatal = true ∧
          t.trace = s.trace ++ pre ++ [.write t.cur t.cur6, .drvDisable]))

/-- A `TICK` that is Armed after S1 runs S2 to S7 on the Armed path, and this is all it does (R92): the LED toggle, the
stabilizer, the targets `clamp(raw + corr)`, the shaper and one `Write`. -/
def Obligations.ArmedTickRunsTheFullPipeline : Prop :=
  ∀ (s : State) (now : BitVec 64) (rx : Option Rx) (gyro : Option GyroWords), s.en = true →
    (afterLive now rx gyro s).ctl = .armed →
    let s1 := afterLive now rx gyro s
    let P := s1.active
    let stab := stageStab (gyro.map gyroRates) s1
    let on := if s1.latest.buttons.getLsbD P.ledButtonBit = true ∧ s1.prevBtn = false then !s1.ledOn else s1.ledOn
    let cur : Six ℚ := .ofFn fun i => shapeChannel s.rounding P i (s1.cur.get i)
      (clamp ((stageMix P s1.latest).get i + stab.2.get i) P.pwmMin P.pwmBoostMax)
    let cur6 := if on then P.ledOnUs else P.ledOffUs
    exec (.tick now rx gyro) s = .next
      { s1 with
        ledOn := on, prevBtn := s1.latest.buttons.getLsbD P.ledButtonBit, cur := cur, cur6 := cur6
        integ := stab.1.integ, eprev := stab.1.eprev, inHold := stab.1.inHold
        trace := s1.trace ++ [.write cur cur6] }

/-- A `TICK` that is not Armed after S1, with the engine still running, runs neither stabilizer nor mixer: every target
is `pwm_min`, and the LED stage, the shaper and the `Write` run as on any tick (R92, R128). -/
def Obligations.UnarmedTickDrivesToMinimum : Prop :=
  ∀ (s : State) (now : BitVec 64) (rx : Option Rx) (gyro : Option GyroWords), s.en = true →
    (afterLive now rx gyro s).en = true → (afterLive now rx gyro s).ctl ≠ .armed →
    let s1 := afterLive now rx gyro s
    let P := s1.active
    let on := if s1.latest.buttons.getLsbD P.ledButtonBit = true ∧ s1.prevBtn = false then !s1.ledOn else s1.ledOn
    let cur : Six ℚ := .ofFn fun i => shapeChannel s.rounding P i (s1.cur.get i) P.pwmMin
    let cur6 := if on then P.ledOnUs else P.ledOffUs
    exec (.tick now rx gyro) s = .next
      { s1 with
        ledOn := on, prevBtn := s1.latest.buttons.getLsbD P.ledButtonBit, cur := cur, cur6 := cur6
        trace := s1.trace ++ [.write cur cur6] }

/-- The frame of every `TICK`, running or refused: it never writes the shadow bank, `cfg_busy`, `cmd_err`, the ports or
the rounding parameter; `seq_err` only when it is refused, `cfg_dirty` and `cfg_err` only by its snapshot, which a refused
`TICK` does not perform: that one sets `seq_err` and changes nothing else (R91, R92). -/
def Obligations.TickLeavesConfigurationInputsAlone : Prop :=
  ∀ (s : State) (now : BitVec 64) (rx : Option Rx) (gyro : Option GyroWords),
    ∃ t, exec (.tick now rx gyro) s = .next t ∧
      t.shadow = s.shadow ∧ t.cfgBusy = s.cfgBusy ∧ t.cmdErr = s.cmdErr ∧ t.rounding = s.rounding ∧
      t.ctlIn = s.ctlIn ∧ t.cfgIn = s.cfgIn ∧ t.turns = s.turns ∧ t.seqErr = (s.seqErr || !s.en) ∧
      (s.en = true → t.cfgDirty = s.snapshot.cfgDirty ∧ t.cfgErr = s.snapshot.cfgErr) ∧
      (s.en = false → t.cfgDirty = s.cfgDirty ∧ t.cfgErr = s.cfgErr ∧ t = { s with seqErr := true })

/-! ## Liveness and Failsafe -/

/-- Stage S1 in one piece, the order of its parts included (R130): the accepted frame first, then the gyro counter, then
the timeout, then the gyro failure. -/
def Obligations.LivenessStageInOrder : Prop :=
  ∀ (s : State) (now : BitVec 64) (rx : Option Rx) (gyroValid : Bool),
    let P := s.active
    let bad := if gyroValid then 0 else min (s.gyroBad + 1) (2 ^ 32 - 1)
    let s1 : State :=
      match rx with
      | none => { s with gyroBad := bad }
      | some r =>
        if P.peerAny = true ∨ r.src = P.peerAddr then
          { s with lastSeen := now, latest := r.frame, ctl := .armed, gyroBad := bad }
        else { s with gyroBad := bad }
    let elapsedUs : ℚ := if s1.lastSeen.toNat ≤ now.toNat then ((now.toNat - s1.lastSeen.toNat : ℕ) : ℚ) else 0
    let timeout := P.connectionTimeoutSeconds * 10 ^ 6 < elapsedUs
    let gyroFail := P.gyroFailLimit < (s1.gyroBad : ℤ)
    (s1.ctl ≠ .armed → stageLive now rx gyroValid s = s1) ∧
    (s1.ctl = .armed → timeout → stageLive now rx gyroValid s = enterFailsafe 1 s1) ∧
    (s1.ctl = .armed → ¬ timeout → gyroFail → stageLive now rx gyroValid s = enterFailsafe 2 s1) ∧
    (s1.ctl = .armed → ¬ timeout → ¬ gyroFail → stageLive now rx gyroValid s = s1)

/-- Failsafe entry (R126): under the default policy the safe state is entered at once, `last_seen`, `gyro_bad` and
everything else unchanged; under the fatal policy the engine is shut down with cause `8 + c`. As long as the block is in
Failsafe every target is `pwm_min`. The values written to `cur[0..5]`, `I[a]` and `eprev[a]` pass through `RND` (R7), the
identity by default. -/
def Obligations.FailsafeEntryForcesTheSafeState : Prop :=
  ∀ (s : State) (c : BitVec 4),
    let P := s.active
    let p := s.rounding.apply P.pwmMin
    let z := s.rounding.apply 0
    let cur : Six ℚ := ⟨p, p, p, p, p, p⟩
    let safe : State :=
      { s with
        ctl := .failsafe, cause := c, cur := cur, ledOn := false, prevBtn := false, cur6 := P.ledOffUs
        latest := GamepadFrame.neutral, integ := ⟨z, z, z⟩, eprev := ⟨z, z, z⟩, inHold := false }
    (P.failsafeFatal = false → enterFailsafe c s = safe) ∧
    (P.failsafeFatal = true → enterFailsafe c s =
      { safe with
        ctl := .await, lastSeen := 0, gyroBad := 0, cause := 8 + c, en := false
        trace := s.trace ++ [.write cur P.ledOffUs, .drvDisable] }) ∧
    (∀ gyro i, s.ctl = .failsafe → (stageTargets gyro s).2.get i = P.pwmMin)

/-- The fatal stop (R127): the tick that enters Failsafe under `failsafe_fatal = 1` ends with the shutdown, whose `Write`
of the safe values is the only one, cause 9 after a timeout and 10 after a gyro failure; every later `TICK` is refused.
The block was Armed, or the tick's own accepted frame arms it and a gyro read that has failed too often stops it in the
same tick (R125); under a valid bank such a tick cannot time out (R124). -/
def Obligations.FatalFailsafeStopsTheEngine : Prop :=
  ∀ (s : State) (now : BitVec 64) (rx : Option Rx) (gyro : Option GyroWords), s.en = true →
    let P := bankInForce s
    accepted P rx = true ∨ s.ctl = .armed → P.failsafeFatal = true →
    let bad := if gyro.isSome then 0 else min (s.gyroBad + 1) (2 ^ 32 - 1)
    let lastSeen := if accepted P rx = true then now else s.lastSeen
    let timeout := P.connectionTimeoutSeconds * 10 ^ 6 < (elapsed now lastSeen : ℚ)
    timeout ∨ P.gyroFailLimit < (bad : ℤ) →
    ∃ t, exec (.tick now rx gyro) s = .next t ∧ SafeOutputs t ∧ Quiet t ∧ t.en = false ∧ t.ctl = .await ∧
      (timeout → t.cause = 9) ∧ (¬ timeout → t.cause = 10) ∧
      (cfgValid P = true → accepted P rx = true → t.cause = 10) ∧
      t.trace = (stageSnap s).trace ++ [.write t.cur t.cur6, .drvDisable] ∧
      ∀ now' rx' gyro', exec (.tick now' rx' gyro') t = .next { t with seqErr := true }

/-- The link timeout (R124, R126, R131; the source's Failsafe trigger property): on the first tick past the limit
without an accepted frame every thruster is written at `pwm_min` and the LED is off, whatever the outputs were. The
rounding function need only fix `pwm_min`. -/
def Obligations.LinkTimeoutForcesSafeOutputs : Prop :=
  ∀ (s : State) (now : BitVec 64) (rx : Option Rx) (gyro : Option GyroWords), s.en = true → s.ctl = .armed →
    let P := bankInForce s
    cfgValid P = true → accepted P rx = false → P.failsafeFatal = false →
    s.rounding.apply P.pwmMin = P.pwmMin →
    s.lastSeen.toNat ≤ now.toNat →
    P.connectionTimeoutSeconds * 10 ^ 6 < ((now.toNat : ℚ) - s.lastSeen.toNat) →
    ∃ t, exec (.tick now rx gyro) s = .next t ∧ t.ctl = .failsafe ∧ t.cause = 1 ∧ t.en = true ∧ SafeOutputs t ∧
      Quiet t ∧ t.trace = (stageSnap s).trace ++ [.write t.cur t.cur6] ∧ t.lastSeen = s.lastSeen

/-- The comparison of the timeout is strict, and a backward clock never times out: a tick at most the timeout after
`last_seen`, with the gyro within its limit, stays Armed, with no frame accepted (R124, R125). -/
def Obligations.TickWithinTheTimeoutStaysArmed : Prop :=
  ∀ (s : State) (now : BitVec 64) (rx : Option Rx) (gyro : Option GyroWords), s.en = true → s.ctl = .armed →
    let P := bankInForce s
    cfgValid P = true → accepted P rx = false →
    ((now.toNat : ℚ) - s.lastSeen.toNat) ≤ P.connectionTimeoutSeconds * 10 ^ 6 →
    ((if gyro.isSome then 0 else min (s.gyroBad + 1) (2 ^ 32 - 1) : ℕ) : ℤ) ≤ P.gyroFailLimit →
    ∃ t, exec (.tick now rx gyro) s = .next t ∧ t.ctl = .armed ∧ t.cause = s.cause ∧ t.lastSeen = s.lastSeen ∧
      t.latest = s.latest

/-- Gyro failure (R125): an Armed tick that has not timed out enters Failsafe with cause 2 once more than
`gyro_fail_limit` consecutive samples have failed, also on the tick of an accepted frame. -/
def Obligations.GyroFailureEntersFailsafe : Prop :=
  ∀ (s : State) (now : BitVec 64) (rx : Option Rx), s.en = true →
    let P := bankInForce s
    cfgValid P = true → P.failsafeFatal = false →
    (accepted P rx = true ∨ s.ctl = .armed ∧ (elapsed now s.lastSeen : ℚ) ≤ P.connectionTimeoutSeconds * 10 ^ 6) →
    P.gyroFailLimit < ((min (s.gyroBad + 1) (2 ^ 32 - 1) : ℕ) : ℤ) →
    ∃ t, exec (.tick now rx none) s = .next t ∧ t.ctl = .failsafe ∧ t.cause = 2 ∧ Quiet t ∧
      t.cur6 = P.ledOffUs ∧ t.gyroBad = min (s.gyroBad + 1) (2 ^ 32 - 1)

/-- First contact and the return from Failsafe (R122, R192): an accepted frame arms the block in the same tick, sets
`last_seen` and `latest`, and keeps the recorded cause, as long as the gyro is within its limit. -/
def Obligations.AcceptedFrameArmsTheBlock : Prop :=
  ∀ (s : State) (now : BitVec 64) (r : Rx) (gyro : Option GyroWords), s.en = true →
    let P := bankInForce s
    cfgValid P = true → (P.peerAny = true ∨ r.src = P.peerAddr) →
    ((if gyro.isSome then 0 else min (s.gyroBad + 1) (2 ^ 32 - 1) : ℕ) : ℤ) ≤ P.gyroFailLimit →
    ∃ t, exec (.tick now (some r) gyro) s = .next t ∧ t.ctl = .armed ∧ t.lastSeen = now ∧ t.latest = r.frame ∧
      t.cause = s.cause

/-- A frame from an address that is not allow-listed is not an event at all: the tick does exactly what it does with no
frame (R121, R189). -/
def Obligations.UnknownPeerFrameHasNoEffect : Prop :=
  ∀ (s : State) (now : BitVec 64) (r : Rx) (gyro : Option GyroWords),
    (bankInForce s).peerAny = false → r.src ≠ (bankInForce s).peerAddr →
    exec (.tick now (some r) gyro) s = exec (.tick now none gyro) s

/-- The control state machine (R120, R193): without an accepted frame a tick leaves AwaitingFirstContact and Failsafe as
they are, and Armed turns into Failsafe, into a stopped engine or stays; with one, the tick ends Armed, or in the
Failsafe or the stop of a gyro failure. The configuration commands never change `ctl`. -/
def Obligations.ControlStateTransitions : Prop :=
  (∀ (s t : State) (now : BitVec 64) (rx : Option Rx) (gyro : Option GyroWords), s.en = true →
    cfgValid (bankInForce s) = true → exec (.tick now rx gyro) s = .next t →
    (accepted (bankInForce s) rx = false → s.ctl ≠ .armed → t.ctl = s.ctl ∧ t.cause = s.cause ∧ t.en = true) ∧
    (accepted (bankInForce s) rx = false → s.ctl = .armed →
      t.ctl = .armed ∧ t.en = true ∨ t.ctl = .failsafe ∧ t.en = true ∧ (t.cause = 1 ∨ t.cause = 2) ∨
      t.ctl = .await ∧ t.en = false ∧ (t.cause = 9 ∨ t.cause = 10)) ∧
    (accepted (bankInForce s) rx = true →
      t.ctl = .armed ∧ t.en = true ∨ t.ctl = .failsafe ∧ t.en = true ∧ t.cause = 2 ∨
      t.ctl = .await ∧ t.en = false ∧ t.cause = 10)) ∧
  (∀ (s t : State) (i : Instr), i.port = .cfgp → exec i s = .next t → t.ctl = s.ctl ∧ t.en = s.en)

/-- The gyro counter (R123): on every tick of a running engine, in every control state, a valid sample clears it and a
failed one counts, saturating; only the shutdown of a fatal stop then clears it. -/
def Obligations.GyroFailuresAreCounted : Prop :=
  ∀ (s : State) (now : BitVec 64) (rx : Option Rx) (gyro : Option GyroWords), s.en = true →
    ∃ t, exec (.tick now rx gyro) s = .next t ∧
      (t.en = true → t.gyroBad = if gyro.isSome then 0 else min (s.gyroBad + 1) (2 ^ 32 - 1)) ∧
      (t.en = false → t.gyroBad = 0)

/-- The safe outputs are a fixed point (R128, R178 (5)): a block that is not Armed, with its outputs safe and nothing
left of a former session, stays so on every tick that brings no accepted frame and no new bank. -/
def Obligations.UnarmedTickHoldsSafeOutputs : Prop :=
  ∀ (s : State) (now : BitVec 64) (rx : Option Rx) (gyro : Option GyroWords), s.en = true → s.ctl ≠ .armed →
    cfgValid s.active = true → s.snapshotTakes = false → accepted s.active rx = false → SafeOutputs s → Quiet s →
    s.rounding.apply s.active.pwmMin = s.active.pwmMin →
    ∃ t, exec (.tick now rx gyro) s = .next t ∧ SafeOutputs t ∧ Quiet t ∧ t.ctl = s.ctl ∧
      t.trace = s.trace ++ [.write s.cur s.cur6]

/-! ## LED -/

/-- Stage S2 (R181): the toggle on a rising edge of the designated bit, and nothing but `led_on`, `prev_btn` and `cur[6]`
written; a second run on the same frame does nothing; on the neutral frame with the LED off it stays off. -/
def Obligations.LedTogglesOnARisingEdge : Prop :=
  ∀ s : State,
    let b := s.latest.buttons.getLsbD s.active.ledButtonBit
    let on := if b = true ∧ s.prevBtn = false then !s.ledOn else s.ledOn
    stageLed s = { s with ledOn := on, prevBtn := b, cur6 := if on then s.active.ledOnUs else s.active.ledOffUs } ∧
    stageLed (stageLed s) = stageLed s ∧
    (s.latest = GamepadFrame.neutral → s.ledOn = false →
      stageLed s = { s with ledOn := false, prevBtn := false, cur6 := s.active.ledOffUs })

/-- The source's testable property (R183): along any sequence of Armed ticks' frames in which the designated bit stays
pressed, whatever else the frames hold, the LED toggles once when the bit was not pressed before, and not at all when it
was. -/
def Obligations.HeldButtonTogglesTheLedOnce : Prop :=
  ∀ (s : State) (f : GamepadFrame) (fs : List GamepadFrame),
    (∀ g ∈ f :: fs, g.buttons.getLsbD s.active.ledButtonBit = true) →
    let t := (f :: fs).foldl (fun u g => stageLed { u with latest := g }) s
    t.ledOn = (if s.prevBtn then s.ledOn else !s.ledOn) ∧ t.prevBtn = true

/-! ## Mixer -/

/-- Magnitude, activity and sign of a stick value (R135): −32768 saturates, and under a valid bank an active value has a
sign of ±1. -/
def Obligations.StickMagnitudeAndActivity : Prop :=
  ∀ (P : Bank) (v : BitVec 16),
    mag v = min |v.toInt| 32767 ∧ mag (BitVec.ofInt 16 (-32768)) = 32767 ∧
    (active P v = true ↔ P.deadzone < mag v) ∧
    (0 < v.toInt → sgn v = 1) ∧ (v.toInt < 0 → sgn v = -1) ∧ (v.toInt = 0 → sgn v = 0) ∧
    (cfgValid P = true → active P v = true → sgn v = 1 ∨ sgn v = -1)

/-- Each stick's contribution (R138 to R140): its pair receives the linear map of the magnitude, every other horizontal
channel, and every one while the stick is inactive, `pwm_min`. -/
def Obligations.SticksDriveTheirChannelPairs : Prop :=
  ∀ (P : Bank) (v : BitVec 16),
    let dz : ℚ := P.deadzone
    let x := P.pwmMin + ((mag v : ℚ) - dz) / (32767 - dz) * (P.pwmNormalMax - P.pwmMin)
    let rot := contribution P v (rotationPair v)
    let tr := contribution P v (translationPair v)
    (active P v = true → 0 < v.toInt →
      rot 0 = x ∧ rot 3 = x ∧ rot 1 = P.pwmMin ∧ rot 2 = P.pwmMin ∧
      tr 0 = x ∧ tr 2 = x ∧ tr 1 = P.pwmMin ∧ tr 3 = P.pwmMin) ∧
    (active P v = true → v.toInt < 0 →
      rot 1 = x ∧ rot 2 = x ∧ rot 0 = P.pwmMin ∧ rot 3 = P.pwmMin ∧
      tr 1 = x ∧ tr 3 = x ∧ tr 0 = P.pwmMin ∧ tr 2 = P.pwmMin) ∧
    (active P v = false → ∀ i, rot i = P.pwmMin ∧ tr i = P.pwmMin)

/-- The boost table is the fixed 4-case sign table, and its channel is the one common to the two active pairs (R143). -/
def Obligations.BoostChannelIsTheCommonChannel : Prop :=
  (boostChannel 1 1 = 0 ∧ boostChannel 1 (-1) = 3 ∧ boostChannel (-1) 1 = 2 ∧ boostChannel (-1) (-1) = 1) ∧
  ∀ (P : Bank) (rot tr : BitVec 16), cfgValid P = true → active P rot = true → active P tr = true →
    ∀ k : Fin 6, k ∈ rotationPair rot ∧ k ∈ translationPair tr ↔ k = boostChannel (sgn rot) (sgn tr)

/-- Every raw target lies in `[pwm_min, pwm_boost_max]`, for every frame, the boost included (R142, R146 (1)). -/
def Obligations.RawTargetsStayInRange : Prop :=
  ∀ (P : Bank) (f : GamepadFrame) (i : Fin 6), cfgValid P = true →
    P.pwmMin ≤ (stageMix P f).get i ∧ (stageMix P f).get i ≤ P.pwmBoostMax

/-- The raw targets of the channels 0 to 3, for every frame (R136, R141, R142): the larger of the two contributions, and on
the one channel of the sign table, while both sticks are active, a boost proportional to the weaker magnitude. So with both
sticks at full magnitude the boosted channel reaches exactly `pwm_boost_max`, and with one stick inactive no channel is
boosted. -/
def Obligations.FullSticksReachTheBoostMaximum : Prop :=
  (∀ (P : Bank) (f : GamepadFrame) (i : Fin 6), i ≤ 3 →
    let dz : ℚ := P.deadzone
    let w : ℚ := (min (mag f.leftX) (mag f.rightX) : ℤ)
    (stageMix P f).get i =
      max (contribution P f.leftX (rotationPair f.leftX) i) (contribution P f.rightX (translationPair f.rightX) i) +
        if active P f.leftX = true ∧ active P f.rightX = true ∧ i = boostChannel (sgn f.leftX) (sgn f.rightX) then
          (w - dz) / (32767 - dz) * (P.pwmBoostMax - P.pwmNormalMax)
        else 0) ∧
  ∀ (P : Bank) (f : GamepadFrame), cfgValid P = true →
    (mag f.leftX = 32767 → mag f.rightX = 32767 →
      (stageMix P f).get (boostChannel (sgn f.leftX) (sgn f.rightX)) = P.pwmBoostMax) ∧
    (active P f.leftX = false ∨ active P f.rightX = false → ∀ i : Fin 6, i ≤ 3 →
      (stageMix P f).get i = max (contribution P f.leftX (rotationPair f.leftX) i)
        (contribution P f.rightX (translationPair f.rightX) i) ∧ (stageMix P f).get i ≤ P.pwmNormalMax)

/-- The forward/reverse map, in both curve modes (R144, R145, R146 (2)): both channels get the same value, exactly
`pwm_min` at or below the deadzone (so for every negative stick), the linear or squared response above it, which is
monotonic and reaches `pwm_boost_max` at the top. -/
def Obligations.ForwardMapIsMonotonic : Prop :=
  ∀ (P : Bank), cfgValid P = true →
    (∀ f : GamepadFrame, (stageMix P f).get 4 = (stageMix P f).get 5) ∧
    (∀ f : GamepadFrame, f.rightY.toInt ≤ P.deadzone → (stageMix P f).get 4 = P.pwmMin) ∧
    (∀ f : GamepadFrame, P.deadzone < f.rightY.toInt →
      let t : ℚ := ((f.rightY.toInt : ℚ) - P.deadzone) / (32767 - P.deadzone)
      (stageMix P f).get 4 =
        P.pwmMin + (if P.curveQuadratic then t * t else t) * (P.pwmBoostMax - P.pwmMin)) ∧
    (∀ f g : GamepadFrame, f.rightY.toInt ≤ g.rightY.toInt → (stageMix P f).get 4 ≤ (stageMix P g).get 4) ∧
    (∀ f : GamepadFrame, f.rightY.toInt = 32767 → (stageMix P f).get 4 = P.pwmBoostMax)

/-! ## Stabilizer -/

/-- The proportional baseline (R150, R153 to R156): the registers (through `RND`, R7) and `in_hold` are zeroed and nothing
else is written;
roll and yaw terms with the alternating pattern while the translation stick is active, and yaw trigger (b) added. -/
def Obligations.ProportionalStageCorrections : Prop :=
  ∀ (s : State) (rate : Axes ℚ), s.active.stabPid = false →
    let P := s.active
    let u := if active P s.latest.rightX then P.kpRoll * rate.roll + P.kpYaw * rate.yaw else 0
    let y := yawHoldTerm P s.latest rate.yaw
    let z := s.rounding.apply 0
    (stageStab (some rate) s).1 = { s with integ := ⟨z, z, z⟩, eprev := ⟨z, z, z⟩, inHold := false } ∧
    (stageStab (some rate) s).2 = ⟨-u + y.c0, u + y.c1, u + y.c2, -u + y.c3, 0, 0⟩

/-- Yaw trigger (b) (R155): off while the rotation stick is active or the rate is within the threshold; otherwise the
clamped correction goes to the one pair that opposes the rotation, and no channel gets more than 400 µs or less than 0. -/
def Obligations.YawHoldRaisesTheOpposingPair : Prop :=
  ∀ (P : Bank) (f : GamepadFrame) (yaw : ℚ),
    let c := max (-400) (min 400 (-yaw * P.yawGain))
    (active P f.leftX = true ∨ |yaw| ≤ P.yawThresholdDps → yawHoldTerm P f yaw = ⟨0, 0, 0, 0, 0, 0⟩) ∧
    (active P f.leftX = false → P.yawThresholdDps < |yaw| → 0 < c → yawHoldTerm P f yaw = ⟨c, 0, 0, c, 0, 0⟩) ∧
    (active P f.leftX = false → P.yawThresholdDps < |yaw| → c < 0 → yawHoldTerm P f yaw = ⟨0, -c, -c, 0, 0, 0⟩) ∧
    (active P f.leftX = false → P.yawThresholdDps < |yaw| → c = 0 → yawHoldTerm P f yaw = ⟨0, 0, 0, 0, 0, 0⟩) ∧
    ∀ i, 0 ≤ (yawHoldTerm P f yaw).get i ∧ (yawHoldTerm P f yaw).get i ≤ 400

/-- The PID stage with a valid sample (R157 to R162): entering or leaving hold first zeroes the registers (through `RND`,
R7); then every axis steps, in and out of hold; the outputs go to the channels of the sub-mode. -/
def Obligations.PidStageStepsEveryAxis : Prop :=
  ∀ (s : State) (rate : Axes ℚ), s.active.stabPid = true →
    let P := s.active
    let f := s.latest
    let hold := !active P f.leftX && !active P f.leftY && !active P f.rightX && !active P f.rightY
    let i0 : Axis → ℚ := fun a => if hold = s.inHold then s.integ.get a else s.rounding.apply 0
    let e0 : Axis → ℚ := fun a => if hold = s.inHold then s.eprev.get a else s.rounding.apply 0
    let i1 : Axis → ℚ := fun a =>
      s.rounding.apply (clamp (i0 a + rate.get a * P.loopPeriod) (-P.pidILimit) P.pidILimit)
    let u : Axis → ℚ := fun a =>
      P.kp a * rate.get a + P.ki a * i1 a + P.kd a * ((rate.get a - e0 a) / P.loopPeriod)
    let t := (stageStab (some rate) s).1
    let h := u .roll + u .yaw
    let y := yawHoldTerm P f rate.yaw
    let h' := if active P f.rightX then h else 0
    t = { s with inHold := hold, integ := t.integ, eprev := t.eprev } ∧
    (∀ a, t.integ.get a = i1 a ∧ t.eprev.get a = s.rounding.apply (rate.get a)) ∧
    (stageStab (some rate) s).2 =
      if hold then ⟨-h, h, h, -h, u .pitch, -u .pitch⟩
      else ⟨-h' + y.c0, h' + y.c1, h' + y.c2, -h' + y.c3, 0, 0⟩

/-- A failed gyro read (R163): no correction at all, the stabilizer registers zeroed (through `RND`, R7), `in_hold` still updated from the
sticks in PID mode. -/
def Obligations.FailedGyroReadDisablesStabilization : Prop :=
  ∀ s : State,
    let z := s.rounding.apply 0
    (∀ i, (stageStab none s).2.get i = 0) ∧
    (s.active.stabPid = false →
      (stageStab none s).1 = { s with integ := ⟨z, z, z⟩, eprev := ⟨z, z, z⟩, inHold := false }) ∧
    (s.active.stabPid = true →
      (stageStab none s).1 =
        { s with integ := ⟨z, z, z⟩, eprev := ⟨z, z, z⟩, inHold := holdDetected s.active s.latest })

/-- With zero integral and derivative gains on roll and yaw, and outside hold, the PID variant corrects exactly as the
proportional baseline does (R161, R165 (5)). -/
def Obligations.PidWithoutGainsIsTheBaseline : Prop :=
  ∀ (s : State) (rate : Axes ℚ), s.active.stabPid = true → holdDetected s.active s.latest = false →
    s.active.kiRoll = 0 → s.active.kdRoll = 0 → s.active.kiYaw = 0 → s.active.kdYaw = 0 →
    (stageStab (some rate) s).2 = proportionalCorr s.active s.latest rate

/-- Stage S5 (R164): Armed, the raw targets plus the corrections, clamped; otherwise `pwm_min`. It writes no state: what
stages S3 to S5 write is what S3 writes, or nothing. -/
def Obligations.TargetsAreClampedSums : Prop :=
  ∀ (s : State) (gyro : Option (Axes ℚ)) (i : Fin 6),
    let P := s.active
    let x := (stageMix P s.latest).get i + (stageStab gyro s).2.get i
    (s.ctl = .armed → (stageTargets gyro s).2.get i =
        (if x < P.pwmMin then P.pwmMin else if P.pwmBoostMax < x then P.pwmBoostMax else x) ∧
      (stageTargets gyro s).1 = (stageStab gyro s).1) ∧
    (s.ctl ≠ .armed → stageTargets gyro s = (s, ⟨P.pwmMin, P.pwmMin, P.pwmMin, P.pwmMin, P.pwmMin, P.pwmMin⟩))

/-! ## Shaper -/

/-- Stage S6 in one piece (R175): per channel the optional limit, the group's factor by direction, the clamp and `RND`;
only `cur[0..5]` is written. -/
def Obligations.ShaperMovesEachChannel : Prop :=
  ∀ (s : State) (tgt : Six ℚ),
    stageShape tgt s = { s with cur := (stageShape tgt s).cur } ∧
    ∀ i : Fin 6,
      let P := s.active
      let d0 := tgt.get i - s.cur.get i
      let lim := (P.maxAccel : ℚ) * P.loopPeriod
      let d := if P.rateLimitEn then (if d0 < -lim then -lim else if lim < d0 then lim else d0) else d0
      let up := if i.val ≤ 3 then P.smoothingFactorHorizontal else P.smoothingFactorVertical
      let dn := if i.val ≤ 3 then P.smoothingFactorDecelHorizontal else P.smoothingFactorDecelVertical
      let x := s.cur.get i + d * (if P.smoothAsym = true ∧ d < 0 then dn else up)
      (stageShape tgt s).cur.get i = s.rounding.apply
        (if x < P.pwmMin then P.pwmMin else if P.pwmBoostMax < x then P.pwmBoostMax else x)

/-- The shaper never overshoots (R178 (2)): under a valid bank and exact arithmetic, with the target in the clamp range,
the new value lies between the old one and the target, in every mode. -/
def Obligations.ShaperNeverOvershoots : Prop :=
  ∀ (P : Bank) (i : Fin 6) (cur tgt : ℚ), cfgValid P = true → P.pwmMin ≤ tgt → tgt ≤ P.pwmBoostMax →
    let new := shapeChannel .exact P i cur tgt
    (cur ≤ tgt → cur ≤ new ∧ new ≤ tgt) ∧ (tgt ≤ cur → tgt ≤ new ∧ new ≤ cur)

/-- With the rate limit on and the old value in the clamp range, a channel moves by at most `factor × lim ≤ lim` in one
tick (R178 (3)), under exact arithmetic. -/
def Obligations.RateLimitBoundsTheMovement : Prop :=
  ∀ (P : Bank) (i : Fin 6) (cur tgt : ℚ), cfgValid P = true → P.rateLimitEn = true → P.pwmMin ≤ cur →
    cur ≤ P.pwmBoostMax →
    let lim := (P.maxAccel : ℚ) * P.loopPeriod
    let f := smoothingFactor P i (limitedDelta P (tgt - cur))
    |shapeChannel .exact P i cur tgt - cur| ≤ f * lim ∧ f * lim ≤ lim

/-- Smoothing convergence (R178 (1), the source's testable property): in symmetric mode without a rate limit, exactly
computed, holding a target of the clamp range for `n` ticks multiplies the error by `(1 − f)^n`. -/
def Obligations.SmoothingErrorShrinksGeometrically : Prop :=
  ∀ (P : Bank) (i : Fin 6) (cur tgt : ℚ) (n : ℕ), cfgValid P = true → P.smoothAsym = false → P.rateLimitEn = false →
    P.pwmMin ≤ cur → cur ≤ P.pwmBoostMax → P.pwmMin ≤ tgt → tgt ≤ P.pwmBoostMax →
    let f := if i.val ≤ 3 then P.smoothingFactorHorizontal else P.smoothingFactorVertical
    tgt - (fun x => shapeChannel .exact P i x tgt)^[n] cur = (1 - f) ^ n * (tgt - cur)

/-- Every event that a step from a state of the invariants adds to the trace is within the driver's contract: the duty
cycle of each of the seven pulse widths lies in [0, 1], and a frequency is positive (R177, R200). -/
def Obligations.EmittedEventsHaveLegalDuty : Prop :=
  ∀ s t : State, ControlInv s → RangeInv s → step s = .next t → RoundingKeeps s.rounding t.active →
    ∀ e ∈ t.trace.drop s.trace.length, legalEvent t.active e

/-! ## The invariants that every step keeps -/

/-- The control part: the bank in force, the stopped state, R129, the LED value, the counter's bound and the cause codes
are kept by every step, whatever `RND` is and whatever words arrive (R22, R32, R57 (1), R129, R186). -/
def Obligations.EveryStepKeepsTheControlInvariant : Prop :=
  ∀ s t : State, ControlInv s → step s = .next t → ControlInv t

/-- The range part: `cur[0..5]` stays in the thruster range of the bank in force and every integral within its limit,
for every rounding function that keeps those ranges (R22, R24, R165 (4), R175). -/
def Obligations.EveryStepKeepsTheRangeInvariant : Prop :=
  ∀ s t : State, ControlInv s → RangeInv s → step s = .next t → RoundingKeeps s.rounding t.active → RangeInv t

/-! ## The frame decoder -/

/-- One bad token anywhere among the first seven gives the neutral frame, whatever else the line holds (R113): a token
that, trimmed, is neither empty nor an integer `[+-]?[0-9]+` of 32 signed bits, or whose value does not fit its field
(R111). The datagram still becomes a `TICK` with a frame (R117). -/
def Obligations.BadTokenGivesTheNeutralFrame : Prop :=
  ∀ (line : String) (toks : List (List Char)) (k : ℕ) (t : List Char), isSplit line.toList toks → k < 7 →
    toks[k]? = some t → badToken k t →
    decodeLine line = GamepadFrame.neutral ∧
    ∀ now src gyro, tickOfDatagram now src line gyro = .tick now (some ⟨src, GamepadFrame.neutral⟩) gyro

/-- A line whose first seven tokens are good decodes to their values: trimmed of blanks, an empty one 0, any other the
signed decimal number it writes; missing fields are 0, the buttons modulo 2^16, an eighth token and what follows it do not
matter (R111, R112, R114, R115). And every line is of one of the two kinds: its first seven tokens are good, or one of them
is bad. -/
def Obligations.GoodTokensFillTheFrame : Prop :=
  (∀ (line : String) (toks : List (List Char)) (vs : List ℤ), isSplit line.toList toks → goodTokens (toks.take 7) vs →
    let f := decodeLine line
    let v := fun k => vs[k]?.getD 0
    f.leftX.toInt = v 0 ∧ f.leftY.toInt = v 1 ∧ f.rightX.toInt = v 2 ∧ f.rightY.toInt = v 3 ∧
    (f.lt.toNat : ℤ) = v 4 ∧ (f.rt.toNat : ℤ) = v 5 ∧ (f.buttons.toNat : ℤ) = v 6 % 2 ^ 16) ∧
  (∀ line : String, ∃ toks, isSplit line.toList toks ∧
    ((∃ vs, goodTokens (toks.take 7) vs) ∨ ∃ k t, k < 7 ∧ toks[k]? = some t ∧ badToken k t))
end

