-- ==== Sys2Proof/Laws/Decode.lean ====
section
/-! SUPPORT. What the encoder's words give back: the fields of a header, the halves of a word, the halves of `now`. -/

namespace Sys2Proof

@[simp] theorem lowHalf_packHalves (a b : BitVec 16) : lowHalf (packHalves a b) = a := by
  apply BitVec.eq_of_getLsbD_eq
  intro j hj
  simp only [lowHalf, packHalves, BitVec.getLsbD_extractLsb', BitVec.getLsbD_append, Nat.zero_add]
  simp [hj]

@[simp] theorem highHalf_packHalves (a b : BitVec 16) : highHalf (packHalves a b) = b := by
  apply BitVec.eq_of_getLsbD_eq
  intro j hj
  simp only [highHalf, packHalves, BitVec.getLsbD_extractLsb', BitVec.getLsbD_append]
  simp [hj]

/-- The two `now` words of a `TICK` put together again. -/
@[simp] theorem now_of_halves (now : BitVec 64) : now.extractLsb' 32 32 ++ now.extractLsb' 0 32 = now := by
  apply BitVec.eq_of_getLsbD_eq
  intro j hj
  simp only [BitVec.getLsbD_extractLsb', BitVec.getLsbD_append, Nat.zero_add]
  by_cases h : j < 32
  · simp [h]
  · have h1 : j - 32 < 32 := by omega
    have h2 : 32 + (j - 32) = j := by omega
    simp [h, h1, h2]

/-- The header of a `TICK` is legal, whatever its valid bits. -/
@[simp] theorem decodeHeader_tick (g r : Bool) : decodeHeader .ctl (header .tick (tickArg g r)) = .ok .tick := by
  revert g r
  decide

@[simp] theorem headerRxValid_tick (g r : Bool) : headerRxValid (header .tick (tickArg g r)) = r := by
  revert g r
  decide

@[simp] theorem headerGyroValid_tick (g r : Bool) : headerGyroValid (header .tick (tickArg g r)) = g := by
  revert g r
  decide

/-- The header of a `CFGWR` is legal, whatever its index. -/
theorem decodeHeader_cfgwr (idx : BitVec 5) :
    decodeHeader .cfgp (header .cfgwr ((0 : BitVec 19) ++ idx)) = .ok .cfgwr := by
  revert idx
  decide

theorem index_cfgwr (idx : BitVec 5) : (header .cfgwr ((0 : BitVec 19) ++ idx)).extractLsb' 0 5 = idx := by
  revert idx
  decide

/-- How many words a command takes up. -/
theorem encode_length (i : Instr) :
    (encode i).length = match i with | .tick _ _ _ => 11 | .cfgwr _ _ => 2 | _ => 1 := by
  cases i with
  | tick now rx gyro => cases rx <;> cases gyro <;> rfl
  | init => rfl
  | disable => rfl
  | cfgbegin => rfl
  | cfgwr idx value => rfl
  | cfgend => rfl

end Sys2Proof
end

