-- ==== Sys2Proof/Laws/FrameDecoder.lean ====
section
/-! SUPPORT. The functions of the frame decoder against the grammar of R111 to R115: each one computes exactly what the
grammar says, once and for every input. -/

namespace Sys2Proof.Machine

open Sys2Proof.Safety

/-! ## Splitting -/

theorem splitCommas_ne_nil (l : List Char) : splitCommas l ≠ [] := by
  cases l with
  | nil => simp [splitCommas]
  | cons c cs =>
    simp only [splitCommas]
    split_ifs
    · simp
    · split <;> simp

theorem intercalate_comma_cons (t u : List Char) (ts : List (List Char)) :
    [','].intercalate (t :: u :: ts) = t ++ ',' :: [','].intercalate (u :: ts) := by
  simp [List.intercalate, List.intersperse]

theorem splitCommas_append (t l : List Char) (h : ',' ∉ t) :
    splitCommas (t ++ ',' :: l) = t :: splitCommas l := by
  induction t with
  | nil => simp [splitCommas]
  | cons c cs ih =>
    simp only [List.mem_cons, not_or] at h
    simp [splitCommas, Ne.symm h.1, ih h.2]

theorem splitCommas_of_not_mem (t : List Char) (h : ',' ∉ t) : splitCommas t = [t] := by
  induction t with
  | nil => rfl
  | cons c cs ih =>
    simp only [List.mem_cons, not_or] at h
    simp [splitCommas, Ne.symm h.1, ih h.2]

/-- `splitCommas` gives the substrings between commas. -/
theorem isSplit_splitCommas (l : List Char) : isSplit l (splitCommas l) := by
  induction l with
  | nil => exact ⟨by simp [splitCommas], by simp [splitCommas], by simp [splitCommas]⟩
  | cons c cs ih =>
    obtain ⟨_, hc, hi⟩ := ih
    by_cases h : c = ','
    · subst h
      cases hs : splitCommas cs with
      | nil => exact absurd hs (splitCommas_ne_nil cs)
      | cons u us =>
        simp only [splitCommas, if_true, hs]
        rw [hs] at hc hi
        refine ⟨by simp, ?_, by rw [intercalate_comma_cons, hi]; rfl⟩
        intro t ht
        rcases List.mem_cons.mp ht with rfl | ht
        · simp
        · exact hc t ht
    · cases hs : splitCommas cs with
      | nil => exact absurd hs (splitCommas_ne_nil cs)
      | cons u us =>
        simp only [splitCommas, if_neg h, hs]
        rw [hs] at hc hi
        refine ⟨by simp, ?_, ?_⟩
        · intro t ht
          rcases List.mem_cons.mp ht with rfl | ht
          · simp [Ne.symm h, hc u (by simp)]
          · exact hc t (by simp [ht])
        · cases us with
          | nil => simpa using hi
          | cons v vs => rw [intercalate_comma_cons] at hi ⊢; simp [hi]

/-- The substrings between commas are unique: any split of a line is `splitCommas` of it. -/
theorem eq_splitCommas {l : List Char} {toks : List (List Char)} (h : isSplit l toks) : toks = splitCommas l := by
  obtain ⟨hn, hc, rfl⟩ := h
  induction toks with
  | nil => exact absurd rfl hn
  | cons t ts ih =>
    have ht : ',' ∉ t := hc t (by simp)
    cases ts with
    | nil => simp [splitCommas_of_not_mem t ht]
    | cons u us =>
      rw [intercalate_comma_cons, splitCommas_append _ _ ht,
        ← ih (by simp) fun x hx => hc x (List.mem_cons_of_mem _ hx)]

/-! ## Trimming -/

theorem isBlank_iff (c : Char) : isBlank c = true ↔ c ∈ blanks := by
  simp [isBlank, blanks, or_assoc]

/-- A list is a run of blanks and a rest that does not begin with one. -/
theorem dropWhile_blank_append {pre r : List Char} (hp : ∀ c ∈ pre, c ∈ blanks)
    (hr : ∀ c, r.head? = some c → c ∉ blanks) : (pre ++ r).dropWhile isBlank = r := by
  induction pre with
  | nil =>
    cases r with
    | nil => rfl
    | cons c cs =>
      have hb : isBlank c = false := by
        rw [← Bool.not_eq_true, isBlank_iff]
        exact hr c rfl
      simp [hb]
  | cons c cs ih =>
    have hb : isBlank c = true := (isBlank_iff c).mpr (hp c (by simp))
    simp [hb, ih fun x hx => hp x (by simp [hx])]

/-- Trimming is unique: whatever `t` trims to is `trim t`. -/
theorem eq_trim {t mid : List Char} (h : trimsTo t mid) : mid = trim t := by
  obtain ⟨pre, post, rfl, hb, hm⟩ := h
  have hpre : ∀ c ∈ pre, c ∈ blanks := fun c hc => hb c (by simp [hc])
  have hpost : ∀ c ∈ post.reverse, c ∈ blanks := fun c hc => hb c (by simp [List.mem_reverse.mp hc])
  unfold trim
  cases mid with
  | nil =>
    have h0 : (pre ++ [] ++ post).dropWhile isBlank = [] := by
      have := dropWhile_blank_append (pre := pre ++ post) (r := []) hb (by simp)
      simpa using this
    rw [h0]
    rfl
  | cons c cs =>
    rw [List.append_assoc, dropWhile_blank_append hpre (by intro x hx; exact hm x (.inl (by simpa using hx))),
      List.reverse_append, dropWhile_blank_append hpost, List.reverse_reverse]
    intro x hx
    exact hm x (.inr (by rw [← List.head?_reverse]; exact hx))

/-- A trimmed token is the token without its surrounding blanks. -/
theorem trimsTo_trim (t : List Char) : trimsTo t (trim t) := by
  let u := t.dropWhile isBlank
  let w := u.reverse.takeWhile isBlank
  have hu : u = trim t ++ w.reverse := by
    have h := List.takeWhile_append_dropWhile (p := isBlank) (l := u.reverse)
    have := congrArg List.reverse h
    rw [List.reverse_append, List.reverse_reverse] at this
    exact this.symm
  refine ⟨t.takeWhile isBlank, w.reverse, ?_, ?_, ?_⟩
  · rw [List.append_assoc, ← hu]
    exact List.takeWhile_append_dropWhile.symm
  · intro c hc
    rw [← isBlank_iff]
    rcases List.mem_append.mp hc with h | h
    · exact List.mem_takeWhile_imp h
    · exact List.mem_takeWhile_imp (List.mem_reverse.mp h)
  · rintro c hc hcb
    rw [← isBlank_iff] at hcb
    have nothead : ∀ (l : List Char) (x : Char), (l.dropWhile isBlank).head? = some x → isBlank x = false := by
      intro l x hx
      have := List.head?_dropWhile_not isBlank l
      rw [hx] at this
      simpa using this
    rcases hc with h | h
    · have : u.head? = some c := by
        rw [hu, List.head?_append, h]
        rfl
      rw [nothead t c this] at hcb
      cases hcb
    · have : (u.reverse.dropWhile isBlank).head? = some c := by
        rw [← List.getLast?_reverse]
        exact h
      rw [nothead _ c this] at hcb
      cases hcb

/-! ## The value of a token -/

theorem isDigit_iff (c : Char) : c.isDigit = true ↔ '0' ≤ c ∧ c ≤ '9' := by
  simp [Char.isDigit, Char.le_def]

/-- Once a run has no value it never gets one. -/
theorem foldl_none (t : List Char) :
    t.foldl (fun acc c => acc.bind fun n => if c.isDigit then some (10 * n + (c.toNat - 48)) else none)
      (none : Option ℕ) = none := by
  induction t with
  | nil => rfl
  | cons c cs ih => simpa using ih

theorem foldl_digits (t : List Char) (a : ℕ) (n : ℕ) :
    t.foldl (fun acc c => acc.bind fun n => if c.isDigit then some (10 * n + (c.toNat - 48)) else none) (some a) = some n ↔
      (∀ c ∈ t, '0' ≤ c ∧ c ≤ '9') ∧
      n = Nat.ofDigits 10 (t.reverse.map fun c => c.toNat - '0'.toNat) + 10 ^ t.length * a := by
  induction t generalizing a with
  | nil =>
    constructor
    · rintro ⟨⟩
      simp
    · rintro ⟨_, rfl⟩
      simp
  | cons c cs ih =>
    rw [List.foldl_cons]
    by_cases h : c.isDigit = true
    · rw [Option.bind_some, if_pos h, ih]
      have hz : '0'.toNat = 48 := rfl
      simp only [List.mem_cons, forall_eq_or_imp, (isDigit_iff c).mp h, true_and, and_self, List.reverse_cons,
        List.map_append, Nat.ofDigits_append, List.length_map, List.length_reverse, List.map_cons, List.map_nil,
        Nat.ofDigits_singleton, List.length_cons, pow_succ, hz]
      rw [and_congr_right_iff]
      intro _
      constructor <;> rintro rfl <;> ring
    · rw [Option.bind_some, if_neg h, foldl_none]
      simp only [reduceCtorEq, List.mem_cons, forall_eq_or_imp, false_iff, not_and]
      intro h2
      exact absurd ((isDigit_iff c).mpr h2.1) (by simp [h])

/-- `parseDigits` reads exactly the numerals. -/
theorem parseDigits_iff (t : List Char) (n : ℕ) : parseDigits t = some n ↔ isNumeral t n := by
  unfold parseDigits isNumeral
  cases t with
  | nil => simp
  | cons c cs =>
    rw [if_neg (by simp), foldl_digits]
    simp

/-- `tokenValue` gives exactly the meaning of a trimmed token. -/
theorem tokenValue_iff (t : List Char) (v : ℤ) : tokenValue t = some v ↔ tokenMeans t v := by
  cases t with
  | nil => simp [tokenValue, tokenMeans, isNumeral, eq_comm]
  | cons c cs =>
    have hs : ∀ x : ℤ, parseSigned (c :: cs) = some x ↔
        ∃ ds n, isNumeral ds n ∧ (x = n ∧ (c :: cs = ds ∨ c :: cs = '+' :: ds) ∨ x = -n ∧ c :: cs = '-' :: ds) := by
      intro x
      have noSign : ∀ {n : ℕ}, isNumeral (c :: cs) n → c ≠ '+' ∧ c ≠ '-' := by
        rintro n ⟨_, hd, _⟩
        constructor <;> rintro rfl <;> exact absurd (hd _ List.mem_cons_self) (by decide)
      unfold parseSigned
      split
      · rename_i ds heq
        obtain ⟨rfl, rfl⟩ := List.cons.inj heq
        simp only [Option.map_eq_some_iff, parseDigits_iff]
        constructor
        · rintro ⟨n, hn, rfl⟩
          exact ⟨cs, n, hn, .inl ⟨rfl, .inr rfl⟩⟩
        · rintro ⟨ds, n, hn, ⟨rfl, rfl | h⟩ | ⟨_, h⟩⟩
          · exact absurd rfl (noSign hn).1
          · obtain ⟨_, rfl⟩ := List.cons.inj h
            exact ⟨n, hn, rfl⟩
          · simp at h
      · rename_i ds heq
        obtain ⟨rfl, rfl⟩ := List.cons.inj heq
        simp only [Option.map_eq_some_iff, parseDigits_iff]
        constructor
        · rintro ⟨n, hn, rfl⟩
          exact ⟨cs, n, hn, .inr ⟨rfl, rfl⟩⟩
        · rintro ⟨ds, n, hn, ⟨rfl, rfl | h⟩ | ⟨rfl, h⟩⟩
          · exact absurd rfl (noSign hn).2
          · simp at h
          · obtain ⟨_, rfl⟩ := List.cons.inj h
            exact ⟨n, hn, rfl⟩
      · rename_i hp hm
        simp only [Option.map_eq_some_iff, parseDigits_iff]
        constructor
        · rintro ⟨n, hn, rfl⟩
          exact ⟨c :: cs, n, hn, .inl ⟨rfl, .inl rfl⟩⟩
        · rintro ⟨ds, n, hn, ⟨rfl, rfl | h⟩ | ⟨_, h⟩⟩
          · exact ⟨n, hn, rfl⟩
          · exact absurd h (hp ds)
          · exact absurd h (hm ds)
    unfold tokenValue tokenMeans
    simp only [List.isEmpty_cons, reduceCtorEq, false_and, false_or, ← hs, Bool.false_eq_true, if_false]
    cases hp : parseSigned (c :: cs) with
    | none => simp
    | some x =>
      simp only [Option.some.injEq]
      split_ifs with h
      · constructor
        · rintro ⟨⟩
          exact ⟨h, rfl⟩
        · rintro ⟨_, rfl⟩
          rfl
      · constructor
        · rintro ⟨⟩
        · rintro ⟨h2, rfl⟩
          exact absurd h2 h

theorem fieldAdmits_iff (k : ℕ) (v : ℤ) : fieldAdmits k v = true ↔ fitsField k v := by
  unfold fieldAdmits fitsField Config.stickMin Config.stickMax
  split_ifs with h1 h2
  · rw [decide_eq_true_eq]
    omega
  · rw [decide_eq_true_eq]
    omega
  · simp only [true_iff]
    omega

end Sys2Proof.Machine
end

