-- ==== Sys2Proof/Laws/Operands.lean ====
section
/-! SUPPORT. What the formats, the primitives and the channel and axis records do, each said once. -/

namespace Sys2Proof.Machine

/-! ## Channels and axes -/

@[simp] theorem Six.get_ofFn {α : Type} (f : Fin 6 → α) (i : Fin 6) : (Six.ofFn f).get i = f i := by
  fin_cases i <;> rfl

@[simp] theorem Six.get_const {α : Type} (v : α) (i : Fin 6) : (Six.const v).get i = v := by
  fin_cases i <;> rfl

theorem Six.ext_get {α : Type} {a b : Six α} (h : ∀ i, a.get i = b.get i) : a = b := by
  cases a
  cases b
  simp only [Six.mk.injEq]
  exact ⟨h 0, h 1, h 2, h 3, h 4, h 5⟩

@[simp] theorem Axes.get_ofFn {α : Type} (f : Axis → α) (a : Axis) : (Axes.ofFn f).get a = f a := by
  cases a <;> rfl

@[simp] theorem Axes.get_const {α : Type} (v : α) (a : Axis) : (Axes.const v).get a = v := by
  cases a <;> rfl

theorem Axes.ext_get {α : Type} {a b : Axes α} (h : ∀ x, a.get x = b.get x) : a = b := by
  cases a
  cases b
  simp only [Axes.mk.injEq]
  exact ⟨h .roll, h .pitch, h .yaw⟩

/-! ## Clamp and rounding -/

/-- A clamped value lies in a well-formed range. -/
theorem clamp_mem {v lo hi : ℚ} (h : lo ≤ hi) : lo ≤ clamp v lo hi ∧ clamp v lo hi ≤ hi := by
  unfold clamp
  split_ifs with h1 h2
  · exact ⟨le_refl _, h⟩
  · exact ⟨h, le_refl _⟩
  · exact ⟨not_lt.mp h1, not_lt.mp h2⟩

/-- A value already in the range is left alone. -/
theorem clamp_of_mem {v lo hi : ℚ} (h1 : lo ≤ v) (h2 : v ≤ hi) : clamp v lo hi = v := by
  simp [clamp, not_lt.mpr h1, not_lt.mpr h2]

theorem clamp_eq_max_min {v lo hi : ℚ} (h : lo ≤ hi) : clamp v lo hi = max lo (min hi v) := by
  unfold clamp
  split_ifs with h1 h2
  · rw [max_eq_left (le_trans (min_le_right _ _) h1.le)]
  · rw [min_eq_left h2.le, max_eq_right h]
  · rw [min_eq_right (not_lt.mp h2), max_eq_right (not_lt.mp h1)]

@[simp] theorem Rounding.apply_exact (v : ℚ) : Rounding.exact.apply v = v := rfl

@[simp] theorem Rounding.apply_symbolic (v : ℚ) : Rounding.symbolic.apply v = Config.rnd v := rfl

/-! ## Banks -/

/-- Reading a word after a write: the written word at its index, the old word at every other. -/
theorem Bank.read_write (B : Bank) (i j : Fin 32) (w : Word) :
    (B.write i w).read j = if i = j then w else B.read j := by
  simp only [Bank.read, Bank.write, Fin.getElem_fin, Vector.getElem_set, Fin.ext_iff]

/-- Banks with the same 32 words are equal. -/
theorem Bank.ext_read {A B : Bank} (h : ∀ i, A.read i = B.read i) : A = B := by
  apply Vector.ext
  intro i hi
  exact h ⟨i, hi⟩

@[simp] theorem Bank.read_zero (i : Fin 32) : Bank.zero.read i = 0 := by
  simp [Bank.read, Bank.zero]

/-! ## What a valid bank gives -/

theorem cfgValid_parts {B : Bank} (h : cfgValid B = true) :
    B.v1 = true ∧ B.v2 = true ∧ B.v3 = true ∧ B.v4 = true ∧ B.v5 = true ∧ B.v6 = true ∧ B.v7 = true ∧ B.v8 = true := by
  simpa only [cfgValid, Bool.and_eq_true, and_assoc] using h

theorem cfgValid_deadzone {B : Bank} (h : cfgValid B = true) : 0 ≤ B.deadzone ∧ B.deadzone < 32767 :=
  of_decide_eq_true (cfgValid_parts h).2.1

theorem cfgValid_pulse {B : Bank} (h : cfgValid B = true) :
    0 ≤ B.pwmMin ∧ B.pwmMin ≤ B.pwmNormalMax ∧ B.pwmNormalMax ≤ B.pwmBoostMax := by
  simpa [Bank.v3] using (cfgValid_parts h).2.2.1

theorem cfgValid_min_le_boost {B : Bank} (h : cfgValid B = true) : B.pwmMin ≤ B.pwmBoostMax :=
  (cfgValid_pulse h).2.1.trans (cfgValid_pulse h).2.2

theorem cfgValid_frequency {B : Bank} (h : cfgValid B = true) :
    0 < B.pwmFrequency ∧ B.pwmBoostMax * B.pwmFrequency ≤ Config.million := by
  simpa [Bank.v4] using (cfgValid_parts h).2.2.2.1

theorem cfgValid_led {B : Bank} (h : cfgValid B = true) :
    0 ≤ B.ledOffUs ∧ 0 ≤ B.ledOnUs ∧ B.ledOffUs * B.pwmFrequency ≤ Config.million ∧
      B.ledOnUs * B.pwmFrequency ≤ Config.million := by
  simpa [Bank.v5] using (cfgValid_parts h).2.2.2.2.1

theorem cfgValid_factors {B : Bank} (h : cfgValid B = true) :
    (0 ≤ B.smoothingFactorHorizontal ∧ B.smoothingFactorHorizontal ≤ 1) ∧
    (0 ≤ B.smoothingFactorVertical ∧ B.smoothingFactorVertical ≤ 1) ∧
    (0 ≤ B.smoothingFactorDecelHorizontal ∧ B.smoothingFactorDecelHorizontal ≤ 1) ∧
    (0 ≤ B.smoothingFactorDecelVertical ∧ B.smoothingFactorDecelVertical ≤ 1) := by
  have := (cfgValid_parts h).2.2.2.2.2.1
  simpa only [Bank.v6, isFactor, Bool.and_eq_true, decide_eq_true_eq, and_assoc] using this

theorem cfgValid_times {B : Bank} (h : cfgValid B = true) : 0 ≤ B.connectionTimeoutSeconds ∧ 0 < B.loopPeriod := by
  simpa [Bank.v7] using (cfgValid_parts h).2.2.2.2.2.2.1

theorem cfgValid_limits {B : Bank} (h : cfgValid B = true) :
    0 ≤ B.yawThresholdDps ∧ 0 ≤ B.pidILimit ∧ 0 ≤ B.maxAccel ∧ 0 ≤ B.gyroFailLimit := by
  simpa [Bank.v8] using (cfgValid_parts h).2.2.2.2.2.2.2

/-- The all-zero bank is not valid: its frequency breaks V4. -/
theorem cfgValid_zero : cfgValid Bank.zero = false := by decide +kernel

/-! ## Sticks -/

/-- A magnitude is at most the top of the stick range. -/
theorem mag_le (v : BitVec 16) : mag v ≤ 32767 := min_le_right _ _

/-- A magnitude is never negative. -/
theorem mag_nonneg (v : BitVec 16) : 0 ≤ mag v := by
  unfold mag Config.stickMax
  exact le_min (abs_nonneg _) (by norm_num)

/-- Under a valid bank an active stick is not at rest. -/
theorem toInt_ne_zero_of_active {P : Bank} {v : BitVec 16} (h : cfgValid P = true) (ha : active P v = true) :
    v.toInt ≠ 0 := by
  intro h0
  have hd := (cfgValid_deadzone h).1
  simp only [active, decide_eq_true_eq, mag, h0, abs_zero] at ha
  have : min (0 : ℤ) Config.stickMax = 0 := by decide
  omega

/-- The sign of a stick that is not at rest. -/
theorem sgn_eq (v : BitVec 16) : sgn v = SignType.sign v.toInt := by
  unfold sgn
  split_ifs with h1 h2
  · simp [sign_pos h1]
  · simp [sign_neg h2]
  · have : v.toInt = 0 := by omega
    simp [this]

/-- The neutral frame has no button pressed. -/
theorem neutral_button (n : ℕ) : GamepadFrame.neutral.buttons.getLsbD n = false := by
  simp [GamepadFrame.neutral]

end Sys2Proof.Machine
end

