-- ==== Sys2Proof/Laws/State.lean ====
section
/-! SUPPORT. One lemma for each field and each record update, so that no later proof unfolds an update. -/

namespace Sys2Proof.Machine

variable (s : State)

/-! ## State.refuseCmd: `refuse(cmd_err)` -/

@[simp] theorem State.refuseCmd_cur : s.refuseCmd.cur = s.cur := rfl
@[simp] theorem State.refuseCmd_cur6 : s.refuseCmd.cur6 = s.cur6 := rfl
@[simp] theorem State.refuseCmd_integ : s.refuseCmd.integ = s.integ := rfl
@[simp] theorem State.refuseCmd_eprev : s.refuseCmd.eprev = s.eprev := rfl
@[simp] theorem State.refuseCmd_inHold : s.refuseCmd.inHold = s.inHold := rfl
@[simp] theorem State.refuseCmd_ctl : s.refuseCmd.ctl = s.ctl := rfl
@[simp] theorem State.refuseCmd_en : s.refuseCmd.en = s.en := rfl
@[simp] theorem State.refuseCmd_lastSeen : s.refuseCmd.lastSeen = s.lastSeen := rfl
@[simp] theorem State.refuseCmd_latest : s.refuseCmd.latest = s.latest := rfl
@[simp] theorem State.refuseCmd_gyroBad : s.refuseCmd.gyroBad = s.gyroBad := rfl
@[simp] theorem State.refuseCmd_cause : s.refuseCmd.cause = s.cause := rfl
@[simp] theorem State.refuseCmd_ledOn : s.refuseCmd.ledOn = s.ledOn := rfl
@[simp] theorem State.refuseCmd_prevBtn : s.refuseCmd.prevBtn = s.prevBtn := rfl
@[simp] theorem State.refuseCmd_shadow : s.refuseCmd.shadow = s.shadow := rfl
@[simp] theorem State.refuseCmd_active : s.refuseCmd.active = s.active := rfl
@[simp] theorem State.refuseCmd_cfgBusy : s.refuseCmd.cfgBusy = s.cfgBusy := rfl
@[simp] theorem State.refuseCmd_cfgDirty : s.refuseCmd.cfgDirty = s.cfgDirty := rfl
@[simp] theorem State.refuseCmd_cfgErr : s.refuseCmd.cfgErr = s.cfgErr := rfl
@[simp] theorem State.refuseCmd_cmdErr : s.refuseCmd.cmdErr = true := rfl
@[simp] theorem State.refuseCmd_seqErr : s.refuseCmd.seqErr = s.seqErr := rfl
@[simp] theorem State.refuseCmd_trace : s.refuseCmd.trace = s.trace := rfl
@[simp] theorem State.refuseCmd_rounding : s.refuseCmd.rounding = s.rounding := rfl
@[simp] theorem State.refuseCmd_ctlIn : s.refuseCmd.ctlIn = s.ctlIn := rfl
@[simp] theorem State.refuseCmd_cfgIn : s.refuseCmd.cfgIn = s.cfgIn := rfl
@[simp] theorem State.refuseCmd_turns : s.refuseCmd.turns = s.turns := rfl

/-! ## State.refuseSeq: `refuse(seq_err)` -/

@[simp] theorem State.refuseSeq_cur : s.refuseSeq.cur = s.cur := rfl
@[simp] theorem State.refuseSeq_cur6 : s.refuseSeq.cur6 = s.cur6 := rfl
@[simp] theorem State.refuseSeq_integ : s.refuseSeq.integ = s.integ := rfl
@[simp] theorem State.refuseSeq_eprev : s.refuseSeq.eprev = s.eprev := rfl
@[simp] theorem State.refuseSeq_inHold : s.refuseSeq.inHold = s.inHold := rfl
@[simp] theorem State.refuseSeq_ctl : s.refuseSeq.ctl = s.ctl := rfl
@[simp] theorem State.refuseSeq_en : s.refuseSeq.en = s.en := rfl
@[simp] theorem State.refuseSeq_lastSeen : s.refuseSeq.lastSeen = s.lastSeen := rfl
@[simp] theorem State.refuseSeq_latest : s.refuseSeq.latest = s.latest := rfl
@[simp] theorem State.refuseSeq_gyroBad : s.refuseSeq.gyroBad = s.gyroBad := rfl
@[simp] theorem State.refuseSeq_cause : s.refuseSeq.cause = s.cause := rfl
@[simp] theorem State.refuseSeq_ledOn : s.refuseSeq.ledOn = s.ledOn := rfl
@[simp] theorem State.refuseSeq_prevBtn : s.refuseSeq.prevBtn = s.prevBtn := rfl
@[simp] theorem State.refuseSeq_shadow : s.refuseSeq.shadow = s.shadow := rfl
@[simp] theorem State.refuseSeq_active : s.refuseSeq.active = s.active := rfl
@[simp] theorem State.refuseSeq_cfgBusy : s.refuseSeq.cfgBusy = s.cfgBusy := rfl
@[simp] theorem State.refuseSeq_cfgDirty : s.refuseSeq.cfgDirty = s.cfgDirty := rfl
@[simp] theorem State.refuseSeq_cfgErr : s.refuseSeq.cfgErr = s.cfgErr := rfl
@[simp] theorem State.refuseSeq_cmdErr : s.refuseSeq.cmdErr = s.cmdErr := rfl
@[simp] theorem State.refuseSeq_seqErr : s.refuseSeq.seqErr = true := rfl
@[simp] theorem State.refuseSeq_trace : s.refuseSeq.trace = s.trace := rfl
@[simp] theorem State.refuseSeq_rounding : s.refuseSeq.rounding = s.rounding := rfl
@[simp] theorem State.refuseSeq_ctlIn : s.refuseSeq.ctlIn = s.ctlIn := rfl
@[simp] theorem State.refuseSeq_cfgIn : s.refuseSeq.cfgIn = s.cfgIn := rfl
@[simp] theorem State.refuseSeq_turns : s.refuseSeq.turns = s.turns := rfl

/-! ## State.flagCfg: `cfg_err <- 1` -/

@[simp] theorem State.flagCfg_cur : s.flagCfg.cur = s.cur := rfl
@[simp] theorem State.flagCfg_cur6 : s.flagCfg.cur6 = s.cur6 := rfl
@[simp] theorem State.flagCfg_integ : s.flagCfg.integ = s.integ := rfl
@[simp] theorem State.flagCfg_eprev : s.flagCfg.eprev = s.eprev := rfl
@[simp] theorem State.flagCfg_inHold : s.flagCfg.inHold = s.inHold := rfl
@[simp] theorem State.flagCfg_ctl : s.flagCfg.ctl = s.ctl := rfl
@[simp] theorem State.flagCfg_en : s.flagCfg.en = s.en := rfl
@[simp] theorem State.flagCfg_lastSeen : s.flagCfg.lastSeen = s.lastSeen := rfl
@[simp] theorem State.flagCfg_latest : s.flagCfg.latest = s.latest := rfl
@[simp] theorem State.flagCfg_gyroBad : s.flagCfg.gyroBad = s.gyroBad := rfl
@[simp] theorem State.flagCfg_cause : s.flagCfg.cause = s.cause := rfl
@[simp] theorem State.flagCfg_ledOn : s.flagCfg.ledOn = s.ledOn := rfl
@[simp] theorem State.flagCfg_prevBtn : s.flagCfg.prevBtn = s.prevBtn := rfl
@[simp] theorem State.flagCfg_shadow : s.flagCfg.shadow = s.shadow := rfl
@[simp] theorem State.flagCfg_active : s.flagCfg.active = s.active := rfl
@[simp] theorem State.flagCfg_cfgBusy : s.flagCfg.cfgBusy = s.cfgBusy := rfl
@[simp] theorem State.flagCfg_cfgDirty : s.flagCfg.cfgDirty = s.cfgDirty := rfl
@[simp] theorem State.flagCfg_cfgErr : s.flagCfg.cfgErr = true := rfl
@[simp] theorem State.flagCfg_cmdErr : s.flagCfg.cmdErr = s.cmdErr := rfl
@[simp] theorem State.flagCfg_seqErr : s.flagCfg.seqErr = s.seqErr := rfl
@[simp] theorem State.flagCfg_trace : s.flagCfg.trace = s.trace := rfl
@[simp] theorem State.flagCfg_rounding : s.flagCfg.rounding = s.rounding := rfl
@[simp] theorem State.flagCfg_ctlIn : s.flagCfg.ctlIn = s.ctlIn := rfl
@[simp] theorem State.flagCfg_cfgIn : s.flagCfg.cfgIn = s.cfgIn := rfl
@[simp] theorem State.flagCfg_turns : s.flagCfg.turns = s.turns := rfl

/-! ## State.emit: `emit E` -/

@[simp] theorem State.emit_cur (e : Event) : (s.emit e).cur = s.cur := rfl
@[simp] theorem State.emit_cur6 (e : Event) : (s.emit e).cur6 = s.cur6 := rfl
@[simp] theorem State.emit_integ (e : Event) : (s.emit e).integ = s.integ := rfl
@[simp] theorem State.emit_eprev (e : Event) : (s.emit e).eprev = s.eprev := rfl
@[simp] theorem State.emit_inHold (e : Event) : (s.emit e).inHold = s.inHold := rfl
@[simp] theorem State.emit_ctl (e : Event) : (s.emit e).ctl = s.ctl := rfl
@[simp] theorem State.emit_en (e : Event) : (s.emit e).en = s.en := rfl
@[simp] theorem State.emit_lastSeen (e : Event) : (s.emit e).lastSeen = s.lastSeen := rfl
@[simp] theorem State.emit_latest (e : Event) : (s.emit e).latest = s.latest := rfl
@[simp] theorem State.emit_gyroBad (e : Event) : (s.emit e).gyroBad = s.gyroBad := rfl
@[simp] theorem State.emit_cause (e : Event) : (s.emit e).cause = s.cause := rfl
@[simp] theorem State.emit_ledOn (e : Event) : (s.emit e).ledOn = s.ledOn := rfl
@[simp] theorem State.emit_prevBtn (e : Event) : (s.emit e).prevBtn = s.prevBtn := rfl
@[simp] theorem State.emit_shadow (e : Event) : (s.emit e).shadow = s.shadow := rfl
@[simp] theorem State.emit_active (e : Event) : (s.emit e).active = s.active := rfl
@[simp] theorem State.emit_cfgBusy (e : Event) : (s.emit e).cfgBusy = s.cfgBusy := rfl
@[simp] theorem State.emit_cfgDirty (e : Event) : (s.emit e).cfgDirty = s.cfgDirty := rfl
@[simp] theorem State.emit_cfgErr (e : Event) : (s.emit e).cfgErr = s.cfgErr := rfl
@[simp] theorem State.emit_cmdErr (e : Event) : (s.emit e).cmdErr = s.cmdErr := rfl
@[simp] theorem State.emit_seqErr (e : Event) : (s.emit e).seqErr = s.seqErr := rfl
@[simp] theorem State.emit_trace (e : Event) : (s.emit e).trace = s.trace ++ [e] := rfl
@[simp] theorem State.emit_rounding (e : Event) : (s.emit e).rounding = s.rounding := rfl
@[simp] theorem State.emit_ctlIn (e : Event) : (s.emit e).ctlIn = s.ctlIn := rfl
@[simp] theorem State.emit_cfgIn (e : Event) : (s.emit e).cfgIn = s.cfgIn := rfl
@[simp] theorem State.emit_turns (e : Event) : (s.emit e).turns = s.turns := rfl

/-! ## State.writeShadow: `CfgWrite` -/

@[simp] theorem State.writeShadow_cur (i : BitVec 5) (w : Word) : (s.writeShadow i w).cur = s.cur := rfl
@[simp] theorem State.writeShadow_cur6 (i : BitVec 5) (w : Word) : (s.writeShadow i w).cur6 = s.cur6 := rfl
@[simp] theorem State.writeShadow_integ (i : BitVec 5) (w : Word) : (s.writeShadow i w).integ = s.integ := rfl
@[simp] theorem State.writeShadow_eprev (i : BitVec 5) (w : Word) : (s.writeShadow i w).eprev = s.eprev := rfl
@[simp] theorem State.writeShadow_inHold (i : BitVec 5) (w : Word) : (s.writeShadow i w).inHold = s.inHold := rfl
@[simp] theorem State.writeShadow_ctl (i : BitVec 5) (w : Word) : (s.writeShadow i w).ctl = s.ctl := rfl
@[simp] theorem State.writeShadow_en (i : BitVec 5) (w : Word) : (s.writeShadow i w).en = s.en := rfl
@[simp] theorem State.writeShadow_lastSeen (i : BitVec 5) (w : Word) : (s.writeShadow i w).lastSeen = s.lastSeen := rfl
@[simp] theorem State.writeShadow_latest (i : BitVec 5) (w : Word) : (s.writeShadow i w).latest = s.latest := rfl
@[simp] theorem State.writeShadow_gyroBad (i : BitVec 5) (w : Word) : (s.writeShadow i w).gyroBad = s.gyroBad := rfl
@[simp] theorem State.writeShadow_cause (i : BitVec 5) (w : Word) : (s.writeShadow i w).cause = s.cause := rfl
@[simp] theorem State.writeShadow_ledOn (i : BitVec 5) (w : Word) : (s.writeShadow i w).ledOn = s.ledOn := rfl
@[simp] theorem State.writeShadow_prevBtn (i : BitVec 5) (w : Word) : (s.writeShadow i w).prevBtn = s.prevBtn := rfl
@[simp] theorem State.writeShadow_shadow (i : BitVec 5) (w : Word) : (s.writeShadow i w).shadow = s.shadow.write i.toFin w := rfl
@[simp] theorem State.writeShadow_active (i : BitVec 5) (w : Word) : (s.writeShadow i w).active = s.active := rfl
@[simp] theorem State.writeShadow_cfgBusy (i : BitVec 5) (w : Word) : (s.writeShadow i w).cfgBusy = s.cfgBusy := rfl
@[simp] theorem State.writeShadow_cfgDirty (i : BitVec 5) (w : Word) : (s.writeShadow i w).cfgDirty = s.cfgDirty := rfl
@[simp] theorem State.writeShadow_cfgErr (i : BitVec 5) (w : Word) : (s.writeShadow i w).cfgErr = s.cfgErr := rfl
@[simp] theorem State.writeShadow_cmdErr (i : BitVec 5) (w : Word) : (s.writeShadow i w).cmdErr = s.cmdErr := rfl
@[simp] theorem State.writeShadow_seqErr (i : BitVec 5) (w : Word) : (s.writeShadow i w).seqErr = s.seqErr := rfl
@[simp] theorem State.writeShadow_trace (i : BitVec 5) (w : Word) : (s.writeShadow i w).trace = s.trace := rfl
@[simp] theorem State.writeShadow_rounding (i : BitVec 5) (w : Word) : (s.writeShadow i w).rounding = s.rounding := rfl
@[simp] theorem State.writeShadow_ctlIn (i : BitVec 5) (w : Word) : (s.writeShadow i w).ctlIn = s.ctlIn := rfl
@[simp] theorem State.writeShadow_cfgIn (i : BitVec 5) (w : Word) : (s.writeShadow i w).cfgIn = s.cfgIn := rfl
@[simp] theorem State.writeShadow_turns (i : BitVec 5) (w : Word) : (s.writeShadow i w).turns = s.turns := rfl

/-! ## State.takeShadow: `P <- SHADOW` -/

@[simp] theorem State.takeShadow_cur : s.takeShadow.cur = s.cur := rfl
@[simp] theorem State.takeShadow_cur6 : s.takeShadow.cur6 = s.cur6 := rfl
@[simp] theorem State.takeShadow_integ : s.takeShadow.integ = s.integ := rfl
@[simp] theorem State.takeShadow_eprev : s.takeShadow.eprev = s.eprev := rfl
@[simp] theorem State.takeShadow_inHold : s.takeShadow.inHold = s.inHold := rfl
@[simp] theorem State.takeShadow_ctl : s.takeShadow.ctl = s.ctl := rfl
@[simp] theorem State.takeShadow_en : s.takeShadow.en = s.en := rfl
@[simp] theorem State.takeShadow_lastSeen : s.takeShadow.lastSeen = s.lastSeen := rfl
@[simp] theorem State.takeShadow_latest : s.takeShadow.latest = s.latest := rfl
@[simp] theorem State.takeShadow_gyroBad : s.takeShadow.gyroBad = s.gyroBad := rfl
@[simp] theorem State.takeShadow_cause : s.takeShadow.cause = s.cause := rfl
@[simp] theorem State.takeShadow_ledOn : s.takeShadow.ledOn = s.ledOn := rfl
@[simp] theorem State.takeShadow_prevBtn : s.takeShadow.prevBtn = s.prevBtn := rfl
@[simp] theorem State.takeShadow_shadow : s.takeShadow.shadow = s.shadow := rfl
@[simp] theorem State.takeShadow_active : s.takeShadow.active = s.shadow := rfl
@[simp] theorem State.takeShadow_cfgBusy : s.takeShadow.cfgBusy = s.cfgBusy := rfl
@[simp] theorem State.takeShadow_cfgDirty : s.takeShadow.cfgDirty = s.cfgDirty := rfl
@[simp] theorem State.takeShadow_cfgErr : s.takeShadow.cfgErr = s.cfgErr := rfl
@[simp] theorem State.takeShadow_cmdErr : s.takeShadow.cmdErr = s.cmdErr := rfl
@[simp] theorem State.takeShadow_seqErr : s.takeShadow.seqErr = s.seqErr := rfl
@[simp] theorem State.takeShadow_trace : s.takeShadow.trace = s.trace := rfl
@[simp] theorem State.takeShadow_rounding : s.takeShadow.rounding = s.rounding := rfl
@[simp] theorem State.takeShadow_ctlIn : s.takeShadow.ctlIn = s.ctlIn := rfl
@[simp] theorem State.takeShadow_cfgIn : s.takeShadow.cfgIn = s.cfgIn := rfl
@[simp] theorem State.takeShadow_turns : s.takeShadow.turns = s.turns := rfl

/-! ## State.zeroStab: `zero_stab()` -/

@[simp] theorem State.zeroStab_cur : s.zeroStab.cur = s.cur := rfl
@[simp] theorem State.zeroStab_cur6 : s.zeroStab.cur6 = s.cur6 := rfl
@[simp] theorem State.zeroStab_integ : s.zeroStab.integ = .const (s.rounding.apply 0) := rfl
@[simp] theorem State.zeroStab_eprev : s.zeroStab.eprev = .const (s.rounding.apply 0) := rfl
@[simp] theorem State.zeroStab_inHold : s.zeroStab.inHold = s.inHold := rfl
@[simp] theorem State.zeroStab_ctl : s.zeroStab.ctl = s.ctl := rfl
@[simp] theorem State.zeroStab_en : s.zeroStab.en = s.en := rfl
@[simp] theorem State.zeroStab_lastSeen : s.zeroStab.lastSeen = s.lastSeen := rfl
@[simp] theorem State.zeroStab_latest : s.zeroStab.latest = s.latest := rfl
@[simp] theorem State.zeroStab_gyroBad : s.zeroStab.gyroBad = s.gyroBad := rfl
@[simp] theorem State.zeroStab_cause : s.zeroStab.cause = s.cause := rfl
@[simp] theorem State.zeroStab_ledOn : s.zeroStab.ledOn = s.ledOn := rfl
@[simp] theorem State.zeroStab_prevBtn : s.zeroStab.prevBtn = s.prevBtn := rfl
@[simp] theorem State.zeroStab_shadow : s.zeroStab.shadow = s.shadow := rfl
@[simp] theorem State.zeroStab_active : s.zeroStab.active = s.active := rfl
@[simp] theorem State.zeroStab_cfgBusy : s.zeroStab.cfgBusy = s.cfgBusy := rfl
@[simp] theorem State.zeroStab_cfgDirty : s.zeroStab.cfgDirty = s.cfgDirty := rfl
@[simp] theorem State.zeroStab_cfgErr : s.zeroStab.cfgErr = s.cfgErr := rfl
@[simp] theorem State.zeroStab_cmdErr : s.zeroStab.cmdErr = s.cmdErr := rfl
@[simp] theorem State.zeroStab_seqErr : s.zeroStab.seqErr = s.seqErr := rfl
@[simp] theorem State.zeroStab_trace : s.zeroStab.trace = s.trace := rfl
@[simp] theorem State.zeroStab_rounding : s.zeroStab.rounding = s.rounding := rfl
@[simp] theorem State.zeroStab_ctlIn : s.zeroStab.ctlIn = s.ctlIn := rfl
@[simp] theorem State.zeroStab_cfgIn : s.zeroStab.cfgIn = s.cfgIn := rfl
@[simp] theorem State.zeroStab_turns : s.zeroStab.turns = s.turns := rfl

/-! ## State.makeSafe: the safe values -/

@[simp] theorem State.makeSafe_cur : s.makeSafe.cur = .const (s.rounding.apply s.active.pwmMin) := rfl
@[simp] theorem State.makeSafe_cur6 : s.makeSafe.cur6 = s.active.ledOffUs := rfl
@[simp] theorem State.makeSafe_integ : s.makeSafe.integ = .const (s.rounding.apply 0) := rfl
@[simp] theorem State.makeSafe_eprev : s.makeSafe.eprev = .const (s.rounding.apply 0) := rfl
@[simp] theorem State.makeSafe_inHold : s.makeSafe.inHold = false := rfl
@[simp] theorem State.makeSafe_ctl : s.makeSafe.ctl = s.ctl := rfl
@[simp] theorem State.makeSafe_en : s.makeSafe.en = s.en := rfl
@[simp] theorem State.makeSafe_lastSeen : s.makeSafe.lastSeen = s.lastSeen := rfl
@[simp] theorem State.makeSafe_latest : s.makeSafe.latest = GamepadFrame.neutral := rfl
@[simp] theorem State.makeSafe_gyroBad : s.makeSafe.gyroBad = s.gyroBad := rfl
@[simp] theorem State.makeSafe_cause : s.makeSafe.cause = s.cause := rfl
@[simp] theorem State.makeSafe_ledOn : s.makeSafe.ledOn = false := rfl
@[simp] theorem State.makeSafe_prevBtn : s.makeSafe.prevBtn = false := rfl
@[simp] theorem State.makeSafe_shadow : s.makeSafe.shadow = s.shadow := rfl
@[simp] theorem State.makeSafe_active : s.makeSafe.active = s.active := rfl
@[simp] theorem State.makeSafe_cfgBusy : s.makeSafe.cfgBusy = s.cfgBusy := rfl
@[simp] theorem State.makeSafe_cfgDirty : s.makeSafe.cfgDirty = s.cfgDirty := rfl
@[simp] theorem State.makeSafe_cfgErr : s.makeSafe.cfgErr = s.cfgErr := rfl
@[simp] theorem State.makeSafe_cmdErr : s.makeSafe.cmdErr = s.cmdErr := rfl
@[simp] theorem State.makeSafe_seqErr : s.makeSafe.seqErr = s.seqErr := rfl
@[simp] theorem State.makeSafe_trace : s.makeSafe.trace = s.trace := rfl
@[simp] theorem State.makeSafe_rounding : s.makeSafe.rounding = s.rounding := rfl
@[simp] theorem State.makeSafe_ctlIn : s.makeSafe.ctlIn = s.ctlIn := rfl
@[simp] theorem State.makeSafe_cfgIn : s.makeSafe.cfgIn = s.cfgIn := rfl
@[simp] theorem State.makeSafe_turns : s.makeSafe.turns = s.turns := rfl

/-! ## State.resetSupervisor: the supervisor registers -/

@[simp] theorem State.resetSupervisor_cur (c : BitVec 4) : (s.resetSupervisor c).cur = s.cur := rfl
@[simp] theorem State.resetSupervisor_cur6 (c : BitVec 4) : (s.resetSupervisor c).cur6 = s.cur6 := rfl
@[simp] theorem State.resetSupervisor_integ (c : BitVec 4) : (s.resetSupervisor c).integ = s.integ := rfl
@[simp] theorem State.resetSupervisor_eprev (c : BitVec 4) : (s.resetSupervisor c).eprev = s.eprev := rfl
@[simp] theorem State.resetSupervisor_inHold (c : BitVec 4) : (s.resetSupervisor c).inHold = s.inHold := rfl
@[simp] theorem State.resetSupervisor_ctl (c : BitVec 4) : (s.resetSupervisor c).ctl = .await := rfl
@[simp] theorem State.resetSupervisor_en (c : BitVec 4) : (s.resetSupervisor c).en = s.en := rfl
@[simp] theorem State.resetSupervisor_lastSeen (c : BitVec 4) : (s.resetSupervisor c).lastSeen = 0 := rfl
@[simp] theorem State.resetSupervisor_latest (c : BitVec 4) : (s.resetSupervisor c).latest = s.latest := rfl
@[simp] theorem State.resetSupervisor_gyroBad (c : BitVec 4) : (s.resetSupervisor c).gyroBad = 0 := rfl
@[simp] theorem State.resetSupervisor_cause (c : BitVec 4) : (s.resetSupervisor c).cause = c := rfl
@[simp] theorem State.resetSupervisor_ledOn (c : BitVec 4) : (s.resetSupervisor c).ledOn = s.ledOn := rfl
@[simp] theorem State.resetSupervisor_prevBtn (c : BitVec 4) : (s.resetSupervisor c).prevBtn = s.prevBtn := rfl
@[simp] theorem State.resetSupervisor_shadow (c : BitVec 4) : (s.resetSupervisor c).shadow = s.shadow := rfl
@[simp] theorem State.resetSupervisor_active (c : BitVec 4) : (s.resetSupervisor c).active = s.active := rfl
@[simp] theorem State.resetSupervisor_cfgBusy (c : BitVec 4) : (s.resetSupervisor c).cfgBusy = s.cfgBusy := rfl
@[simp] theorem State.resetSupervisor_cfgDirty (c : BitVec 4) : (s.resetSupervisor c).cfgDirty = s.cfgDirty := rfl
@[simp] theorem State.resetSupervisor_cfgErr (c : BitVec 4) : (s.resetSupervisor c).cfgErr = s.cfgErr := rfl
@[simp] theorem State.resetSupervisor_cmdErr (c : BitVec 4) : (s.resetSupervisor c).cmdErr = s.cmdErr := rfl
@[simp] theorem State.resetSupervisor_seqErr (c : BitVec 4) : (s.resetSupervisor c).seqErr = s.seqErr := rfl
@[simp] theorem State.resetSupervisor_trace (c : BitVec 4) : (s.resetSupervisor c).trace = s.trace := rfl
@[simp] theorem State.resetSupervisor_rounding (c : BitVec 4) : (s.resetSupervisor c).rounding = s.rounding := rfl
@[simp] theorem State.resetSupervisor_ctlIn (c : BitVec 4) : (s.resetSupervisor c).ctlIn = s.ctlIn := rfl
@[simp] theorem State.resetSupervisor_cfgIn (c : BitVec 4) : (s.resetSupervisor c).cfgIn = s.cfgIn := rfl
@[simp] theorem State.resetSupervisor_turns (c : BitVec 4) : (s.resetSupervisor c).turns = s.turns := rfl

/-! ## State.setEnabled: `en <- b` -/

@[simp] theorem State.setEnabled_cur (b : Bool) : (s.setEnabled b).cur = s.cur := rfl
@[simp] theorem State.setEnabled_cur6 (b : Bool) : (s.setEnabled b).cur6 = s.cur6 := rfl
@[simp] theorem State.setEnabled_integ (b : Bool) : (s.setEnabled b).integ = s.integ := rfl
@[simp] theorem State.setEnabled_eprev (b : Bool) : (s.setEnabled b).eprev = s.eprev := rfl
@[simp] theorem State.setEnabled_inHold (b : Bool) : (s.setEnabled b).inHold = s.inHold := rfl
@[simp] theorem State.setEnabled_ctl (b : Bool) : (s.setEnabled b).ctl = s.ctl := rfl
@[simp] theorem State.setEnabled_en (b : Bool) : (s.setEnabled b).en = b := rfl
@[simp] theorem State.setEnabled_lastSeen (b : Bool) : (s.setEnabled b).lastSeen = s.lastSeen := rfl
@[simp] theorem State.setEnabled_latest (b : Bool) : (s.setEnabled b).latest = s.latest := rfl
@[simp] theorem State.setEnabled_gyroBad (b : Bool) : (s.setEnabled b).gyroBad = s.gyroBad := rfl
@[simp] theorem State.setEnabled_cause (b : Bool) : (s.setEnabled b).cause = s.cause := rfl
@[simp] theorem State.setEnabled_ledOn (b : Bool) : (s.setEnabled b).ledOn = s.ledOn := rfl
@[simp] theorem State.setEnabled_prevBtn (b : Bool) : (s.setEnabled b).prevBtn = s.prevBtn := rfl
@[simp] theorem State.setEnabled_shadow (b : Bool) : (s.setEnabled b).shadow = s.shadow := rfl
@[simp] theorem State.setEnabled_active (b : Bool) : (s.setEnabled b).active = s.active := rfl
@[simp] theorem State.setEnabled_cfgBusy (b : Bool) : (s.setEnabled b).cfgBusy = s.cfgBusy := rfl
@[simp] theorem State.setEnabled_cfgDirty (b : Bool) : (s.setEnabled b).cfgDirty = s.cfgDirty := rfl
@[simp] theorem State.setEnabled_cfgErr (b : Bool) : (s.setEnabled b).cfgErr = s.cfgErr := rfl
@[simp] theorem State.setEnabled_cmdErr (b : Bool) : (s.setEnabled b).cmdErr = s.cmdErr := rfl
@[simp] theorem State.setEnabled_seqErr (b : Bool) : (s.setEnabled b).seqErr = s.seqErr := rfl
@[simp] theorem State.setEnabled_trace (b : Bool) : (s.setEnabled b).trace = s.trace := rfl
@[simp] theorem State.setEnabled_rounding (b : Bool) : (s.setEnabled b).rounding = s.rounding := rfl
@[simp] theorem State.setEnabled_ctlIn (b : Bool) : (s.setEnabled b).ctlIn = s.ctlIn := rfl
@[simp] theorem State.setEnabled_cfgIn (b : Bool) : (s.setEnabled b).cfgIn = s.cfgIn := rfl
@[simp] theorem State.setEnabled_turns (b : Bool) : (s.setEnabled b).turns = s.turns := rfl

/-! ## failsafeState: Failsafe entry, the shared part -/

@[simp] theorem failsafeState_cur (c : BitVec 4) : (failsafeState c s).cur = .const (s.rounding.apply s.active.pwmMin) := rfl
@[simp] theorem failsafeState_cur6 (c : BitVec 4) : (failsafeState c s).cur6 = s.active.ledOffUs := rfl
@[simp] theorem failsafeState_integ (c : BitVec 4) : (failsafeState c s).integ = .const (s.rounding.apply 0) := rfl
@[simp] theorem failsafeState_eprev (c : BitVec 4) : (failsafeState c s).eprev = .const (s.rounding.apply 0) := rfl
@[simp] theorem failsafeState_inHold (c : BitVec 4) : (failsafeState c s).inHold = false := rfl
@[simp] theorem failsafeState_ctl (c : BitVec 4) : (failsafeState c s).ctl = .failsafe := rfl
@[simp] theorem failsafeState_en (c : BitVec 4) : (failsafeState c s).en = s.en := rfl
@[simp] theorem failsafeState_lastSeen (c : BitVec 4) : (failsafeState c s).lastSeen = s.lastSeen := rfl
@[simp] theorem failsafeState_latest (c : BitVec 4) : (failsafeState c s).latest = GamepadFrame.neutral := rfl
@[simp] theorem failsafeState_gyroBad (c : BitVec 4) : (failsafeState c s).gyroBad = s.gyroBad := rfl
@[simp] theorem failsafeState_cause (c : BitVec 4) : (failsafeState c s).cause = c := rfl
@[simp] theorem failsafeState_ledOn (c : BitVec 4) : (failsafeState c s).ledOn = false := rfl
@[simp] theorem failsafeState_prevBtn (c : BitVec 4) : (failsafeState c s).prevBtn = false := rfl
@[simp] theorem failsafeState_shadow (c : BitVec 4) : (failsafeState c s).shadow = s.shadow := rfl
@[simp] theorem failsafeState_active (c : BitVec 4) : (failsafeState c s).active = s.active := rfl
@[simp] theorem failsafeState_cfgBusy (c : BitVec 4) : (failsafeState c s).cfgBusy = s.cfgBusy := rfl
@[simp] theorem failsafeState_cfgDirty (c : BitVec 4) : (failsafeState c s).cfgDirty = s.cfgDirty := rfl
@[simp] theorem failsafeState_cfgErr (c : BitVec 4) : (failsafeState c s).cfgErr = s.cfgErr := rfl
@[simp] theorem failsafeState_cmdErr (c : BitVec 4) : (failsafeState c s).cmdErr = s.cmdErr := rfl
@[simp] theorem failsafeState_seqErr (c : BitVec 4) : (failsafeState c s).seqErr = s.seqErr := rfl
@[simp] theorem failsafeState_trace (c : BitVec 4) : (failsafeState c s).trace = s.trace := rfl
@[simp] theorem failsafeState_rounding (c : BitVec 4) : (failsafeState c s).rounding = s.rounding := rfl
@[simp] theorem failsafeState_ctlIn (c : BitVec 4) : (failsafeState c s).ctlIn = s.ctlIn := rfl
@[simp] theorem failsafeState_cfgIn (c : BitVec 4) : (failsafeState c s).cfgIn = s.cfgIn := rfl
@[simp] theorem failsafeState_turns (c : BitVec 4) : (failsafeState c s).turns = s.turns := rfl

/-! ## acceptFrame: an accepted frame -/

@[simp] theorem acceptFrame_cur (n : BitVec 64) (f : GamepadFrame) : (acceptFrame n f s).cur = s.cur := rfl
@[simp] theorem acceptFrame_cur6 (n : BitVec 64) (f : GamepadFrame) : (acceptFrame n f s).cur6 = s.cur6 := rfl
@[simp] theorem acceptFrame_integ (n : BitVec 64) (f : GamepadFrame) : (acceptFrame n f s).integ = s.integ := rfl
@[simp] theorem acceptFrame_eprev (n : BitVec 64) (f : GamepadFrame) : (acceptFrame n f s).eprev = s.eprev := rfl
@[simp] theorem acceptFrame_inHold (n : BitVec 64) (f : GamepadFrame) : (acceptFrame n f s).inHold = s.inHold := rfl
@[simp] theorem acceptFrame_ctl (n : BitVec 64) (f : GamepadFrame) : (acceptFrame n f s).ctl = .armed := rfl
@[simp] theorem acceptFrame_en (n : BitVec 64) (f : GamepadFrame) : (acceptFrame n f s).en = s.en := rfl
@[simp] theorem acceptFrame_lastSeen (n : BitVec 64) (f : GamepadFrame) : (acceptFrame n f s).lastSeen = n := rfl
@[simp] theorem acceptFrame_latest (n : BitVec 64) (f : GamepadFrame) : (acceptFrame n f s).latest = f := rfl
@[simp] theorem acceptFrame_gyroBad (n : BitVec 64) (f : GamepadFrame) : (acceptFrame n f s).gyroBad = s.gyroBad := rfl
@[simp] theorem acceptFrame_cause (n : BitVec 64) (f : GamepadFrame) : (acceptFrame n f s).cause = s.cause := rfl
@[simp] theorem acceptFrame_ledOn (n : BitVec 64) (f : GamepadFrame) : (acceptFrame n f s).ledOn = s.ledOn := rfl
@[simp] theorem acceptFrame_prevBtn (n : BitVec 64) (f : GamepadFrame) : (acceptFrame n f s).prevBtn = s.prevBtn := rfl
@[simp] theorem acceptFrame_shadow (n : BitVec 64) (f : GamepadFrame) : (acceptFrame n f s).shadow = s.shadow := rfl
@[simp] theorem acceptFrame_active (n : BitVec 64) (f : GamepadFrame) : (acceptFrame n f s).active = s.active := rfl
@[simp] theorem acceptFrame_cfgBusy (n : BitVec 64) (f : GamepadFrame) : (acceptFrame n f s).cfgBusy = s.cfgBusy := rfl
@[simp] theorem acceptFrame_cfgDirty (n : BitVec 64) (f : GamepadFrame) : (acceptFrame n f s).cfgDirty = s.cfgDirty := rfl
@[simp] theorem acceptFrame_cfgErr (n : BitVec 64) (f : GamepadFrame) : (acceptFrame n f s).cfgErr = s.cfgErr := rfl
@[simp] theorem acceptFrame_cmdErr (n : BitVec 64) (f : GamepadFrame) : (acceptFrame n f s).cmdErr = s.cmdErr := rfl
@[simp] theorem acceptFrame_seqErr (n : BitVec 64) (f : GamepadFrame) : (acceptFrame n f s).seqErr = s.seqErr := rfl
@[simp] theorem acceptFrame_trace (n : BitVec 64) (f : GamepadFrame) : (acceptFrame n f s).trace = s.trace := rfl
@[simp] theorem acceptFrame_rounding (n : BitVec 64) (f : GamepadFrame) : (acceptFrame n f s).rounding = s.rounding := rfl
@[simp] theorem acceptFrame_ctlIn (n : BitVec 64) (f : GamepadFrame) : (acceptFrame n f s).ctlIn = s.ctlIn := rfl
@[simp] theorem acceptFrame_cfgIn (n : BitVec 64) (f : GamepadFrame) : (acceptFrame n f s).cfgIn = s.cfgIn := rfl
@[simp] theorem acceptFrame_turns (n : BitVec 64) (f : GamepadFrame) : (acceptFrame n f s).turns = s.turns := rfl

/-! ## countGyro: the gyro counter -/

@[simp] theorem countGyro_cur (v : Bool) : (countGyro v s).cur = s.cur := rfl
@[simp] theorem countGyro_cur6 (v : Bool) : (countGyro v s).cur6 = s.cur6 := rfl
@[simp] theorem countGyro_integ (v : Bool) : (countGyro v s).integ = s.integ := rfl
@[simp] theorem countGyro_eprev (v : Bool) : (countGyro v s).eprev = s.eprev := rfl
@[simp] theorem countGyro_inHold (v : Bool) : (countGyro v s).inHold = s.inHold := rfl
@[simp] theorem countGyro_ctl (v : Bool) : (countGyro v s).ctl = s.ctl := rfl
@[simp] theorem countGyro_en (v : Bool) : (countGyro v s).en = s.en := rfl
@[simp] theorem countGyro_lastSeen (v : Bool) : (countGyro v s).lastSeen = s.lastSeen := rfl
@[simp] theorem countGyro_latest (v : Bool) : (countGyro v s).latest = s.latest := rfl
@[simp] theorem countGyro_gyroBad (v : Bool) : (countGyro v s).gyroBad = if v then 0 else min (s.gyroBad + 1) Config.gyroBadMax := rfl
@[simp] theorem countGyro_cause (v : Bool) : (countGyro v s).cause = s.cause := rfl
@[simp] theorem countGyro_ledOn (v : Bool) : (countGyro v s).ledOn = s.ledOn := rfl
@[simp] theorem countGyro_prevBtn (v : Bool) : (countGyro v s).prevBtn = s.prevBtn := rfl
@[simp] theorem countGyro_shadow (v : Bool) : (countGyro v s).shadow = s.shadow := rfl
@[simp] theorem countGyro_active (v : Bool) : (countGyro v s).active = s.active := rfl
@[simp] theorem countGyro_cfgBusy (v : Bool) : (countGyro v s).cfgBusy = s.cfgBusy := rfl
@[simp] theorem countGyro_cfgDirty (v : Bool) : (countGyro v s).cfgDirty = s.cfgDirty := rfl
@[simp] theorem countGyro_cfgErr (v : Bool) : (countGyro v s).cfgErr = s.cfgErr := rfl
@[simp] theorem countGyro_cmdErr (v : Bool) : (countGyro v s).cmdErr = s.cmdErr := rfl
@[simp] theorem countGyro_seqErr (v : Bool) : (countGyro v s).seqErr = s.seqErr := rfl
@[simp] theorem countGyro_trace (v : Bool) : (countGyro v s).trace = s.trace := rfl
@[simp] theorem countGyro_rounding (v : Bool) : (countGyro v s).rounding = s.rounding := rfl
@[simp] theorem countGyro_ctlIn (v : Bool) : (countGyro v s).ctlIn = s.ctlIn := rfl
@[simp] theorem countGyro_cfgIn (v : Bool) : (countGyro v s).cfgIn = s.cfgIn := rfl
@[simp] theorem countGyro_turns (v : Bool) : (countGyro v s).turns = s.turns := rfl

/-! ## State.nextTurn: a turn used up -/

@[simp] theorem State.nextTurn_cur : s.nextTurn.cur = s.cur := rfl
@[simp] theorem State.nextTurn_cur6 : s.nextTurn.cur6 = s.cur6 := rfl
@[simp] theorem State.nextTurn_integ : s.nextTurn.integ = s.integ := rfl
@[simp] theorem State.nextTurn_eprev : s.nextTurn.eprev = s.eprev := rfl
@[simp] theorem State.nextTurn_inHold : s.nextTurn.inHold = s.inHold := rfl
@[simp] theorem State.nextTurn_ctl : s.nextTurn.ctl = s.ctl := rfl
@[simp] theorem State.nextTurn_en : s.nextTurn.en = s.en := rfl
@[simp] theorem State.nextTurn_lastSeen : s.nextTurn.lastSeen = s.lastSeen := rfl
@[simp] theorem State.nextTurn_latest : s.nextTurn.latest = s.latest := rfl
@[simp] theorem State.nextTurn_gyroBad : s.nextTurn.gyroBad = s.gyroBad := rfl
@[simp] theorem State.nextTurn_cause : s.nextTurn.cause = s.cause := rfl
@[simp] theorem State.nextTurn_ledOn : s.nextTurn.ledOn = s.ledOn := rfl
@[simp] theorem State.nextTurn_prevBtn : s.nextTurn.prevBtn = s.prevBtn := rfl
@[simp] theorem State.nextTurn_shadow : s.nextTurn.shadow = s.shadow := rfl
@[simp] theorem State.nextTurn_active : s.nextTurn.active = s.active := rfl
@[simp] theorem State.nextTurn_cfgBusy : s.nextTurn.cfgBusy = s.cfgBusy := rfl
@[simp] theorem State.nextTurn_cfgDirty : s.nextTurn.cfgDirty = s.cfgDirty := rfl
@[simp] theorem State.nextTurn_cfgErr : s.nextTurn.cfgErr = s.cfgErr := rfl
@[simp] theorem State.nextTurn_cmdErr : s.nextTurn.cmdErr = s.cmdErr := rfl
@[simp] theorem State.nextTurn_seqErr : s.nextTurn.seqErr = s.seqErr := rfl
@[simp] theorem State.nextTurn_trace : s.nextTurn.trace = s.trace := rfl
@[simp] theorem State.nextTurn_rounding : s.nextTurn.rounding = s.rounding := rfl
@[simp] theorem State.nextTurn_ctlIn : s.nextTurn.ctlIn = s.ctlIn := rfl
@[simp] theorem State.nextTurn_cfgIn : s.nextTurn.cfgIn = s.cfgIn := rfl
@[simp] theorem State.nextTurn_turns : s.nextTurn.turns = s.turns.tail := rfl

/-! ## stageLed: stage S2 -/

@[simp] theorem stageLed_cur : (stageLed s).cur = s.cur := rfl
@[simp] theorem stageLed_cur6 : (stageLed s).cur6 = ledValue s.active (stageLed s).ledOn := rfl
@[simp] theorem stageLed_integ : (stageLed s).integ = s.integ := rfl
@[simp] theorem stageLed_eprev : (stageLed s).eprev = s.eprev := rfl
@[simp] theorem stageLed_inHold : (stageLed s).inHold = s.inHold := rfl
@[simp] theorem stageLed_ctl : (stageLed s).ctl = s.ctl := rfl
@[simp] theorem stageLed_en : (stageLed s).en = s.en := rfl
@[simp] theorem stageLed_lastSeen : (stageLed s).lastSeen = s.lastSeen := rfl
@[simp] theorem stageLed_latest : (stageLed s).latest = s.latest := rfl
@[simp] theorem stageLed_gyroBad : (stageLed s).gyroBad = s.gyroBad := rfl
@[simp] theorem stageLed_cause : (stageLed s).cause = s.cause := rfl
@[simp] theorem stageLed_ledOn : (stageLed s).ledOn = ledAfter (ledButton s.active s.latest) s.prevBtn s.ledOn := rfl
@[simp] theorem stageLed_prevBtn : (stageLed s).prevBtn = ledButton s.active s.latest := rfl
@[simp] theorem stageLed_shadow : (stageLed s).shadow = s.shadow := rfl
@[simp] theorem stageLed_active : (stageLed s).active = s.active := rfl
@[simp] theorem stageLed_cfgBusy : (stageLed s).cfgBusy = s.cfgBusy := rfl
@[simp] theorem stageLed_cfgDirty : (stageLed s).cfgDirty = s.cfgDirty := rfl
@[simp] theorem stageLed_cfgErr : (stageLed s).cfgErr = s.cfgErr := rfl
@[simp] theorem stageLed_cmdErr : (stageLed s).cmdErr = s.cmdErr := rfl
@[simp] theorem stageLed_seqErr : (stageLed s).seqErr = s.seqErr := rfl
@[simp] theorem stageLed_trace : (stageLed s).trace = s.trace := rfl
@[simp] theorem stageLed_rounding : (stageLed s).rounding = s.rounding := rfl
@[simp] theorem stageLed_ctlIn : (stageLed s).ctlIn = s.ctlIn := rfl
@[simp] theorem stageLed_cfgIn : (stageLed s).cfgIn = s.cfgIn := rfl
@[simp] theorem stageLed_turns : (stageLed s).turns = s.turns := rfl

/-! ## pidRegisters: the PID registers -/

@[simp] theorem pidRegisters_cur (r : Axes ℚ) : (pidRegisters r s).cur = s.cur := rfl
@[simp] theorem pidRegisters_cur6 (r : Axes ℚ) : (pidRegisters r s).cur6 = s.cur6 := rfl
@[simp] theorem pidRegisters_integ (r : Axes ℚ) : (pidRegisters r s).integ = .ofFn fun a => pidIntegral s.rounding s.active (r.get a) (s.integ.get a) := rfl
@[simp] theorem pidRegisters_eprev (r : Axes ℚ) : (pidRegisters r s).eprev = .ofFn fun a => s.rounding.apply (r.get a) := rfl
@[simp] theorem pidRegisters_inHold (r : Axes ℚ) : (pidRegisters r s).inHold = s.inHold := rfl
@[simp] theorem pidRegisters_ctl (r : Axes ℚ) : (pidRegisters r s).ctl = s.ctl := rfl
@[simp] theorem pidRegisters_en (r : Axes ℚ) : (pidRegisters r s).en = s.en := rfl
@[simp] theorem pidRegisters_lastSeen (r : Axes ℚ) : (pidRegisters r s).lastSeen = s.lastSeen := rfl
@[simp] theorem pidRegisters_latest (r : Axes ℚ) : (pidRegisters r s).latest = s.latest := rfl
@[simp] theorem pidRegisters_gyroBad (r : Axes ℚ) : (pidRegisters r s).gyroBad = s.gyroBad := rfl
@[simp] theorem pidRegisters_cause (r : Axes ℚ) : (pidRegisters r s).cause = s.cause := rfl
@[simp] theorem pidRegisters_ledOn (r : Axes ℚ) : (pidRegisters r s).ledOn = s.ledOn := rfl
@[simp] theorem pidRegisters_prevBtn (r : Axes ℚ) : (pidRegisters r s).prevBtn = s.prevBtn := rfl
@[simp] theorem pidRegisters_shadow (r : Axes ℚ) : (pidRegisters r s).shadow = s.shadow := rfl
@[simp] theorem pidRegisters_active (r : Axes ℚ) : (pidRegisters r s).active = s.active := rfl
@[simp] theorem pidRegisters_cfgBusy (r : Axes ℚ) : (pidRegisters r s).cfgBusy = s.cfgBusy := rfl
@[simp] theorem pidRegisters_cfgDirty (r : Axes ℚ) : (pidRegisters r s).cfgDirty = s.cfgDirty := rfl
@[simp] theorem pidRegisters_cfgErr (r : Axes ℚ) : (pidRegisters r s).cfgErr = s.cfgErr := rfl
@[simp] theorem pidRegisters_cmdErr (r : Axes ℚ) : (pidRegisters r s).cmdErr = s.cmdErr := rfl
@[simp] theorem pidRegisters_seqErr (r : Axes ℚ) : (pidRegisters r s).seqErr = s.seqErr := rfl
@[simp] theorem pidRegisters_trace (r : Axes ℚ) : (pidRegisters r s).trace = s.trace := rfl
@[simp] theorem pidRegisters_rounding (r : Axes ℚ) : (pidRegisters r s).rounding = s.rounding := rfl
@[simp] theorem pidRegisters_ctlIn (r : Axes ℚ) : (pidRegisters r s).ctlIn = s.ctlIn := rfl
@[simp] theorem pidRegisters_cfgIn (r : Axes ℚ) : (pidRegisters r s).cfgIn = s.cfgIn := rfl
@[simp] theorem pidRegisters_turns (r : Axes ℚ) : (pidRegisters r s).turns = s.turns := rfl

/-! ## stageShape: stage S6 -/

@[simp] theorem stageShape_cur (t : Six ℚ) : (stageShape t s).cur = .ofFn fun i => shapeChannel s.rounding s.active i (s.cur.get i) (t.get i) := rfl
@[simp] theorem stageShape_cur6 (t : Six ℚ) : (stageShape t s).cur6 = s.cur6 := rfl
@[simp] theorem stageShape_integ (t : Six ℚ) : (stageShape t s).integ = s.integ := rfl
@[simp] theorem stageShape_eprev (t : Six ℚ) : (stageShape t s).eprev = s.eprev := rfl
@[simp] theorem stageShape_inHold (t : Six ℚ) : (stageShape t s).inHold = s.inHold := rfl
@[simp] theorem stageShape_ctl (t : Six ℚ) : (stageShape t s).ctl = s.ctl := rfl
@[simp] theorem stageShape_en (t : Six ℚ) : (stageShape t s).en = s.en := rfl
@[simp] theorem stageShape_lastSeen (t : Six ℚ) : (stageShape t s).lastSeen = s.lastSeen := rfl
@[simp] theorem stageShape_latest (t : Six ℚ) : (stageShape t s).latest = s.latest := rfl
@[simp] theorem stageShape_gyroBad (t : Six ℚ) : (stageShape t s).gyroBad = s.gyroBad := rfl
@[simp] theorem stageShape_cause (t : Six ℚ) : (stageShape t s).cause = s.cause := rfl
@[simp] theorem stageShape_ledOn (t : Six ℚ) : (stageShape t s).ledOn = s.ledOn := rfl
@[simp] theorem stageShape_prevBtn (t : Six ℚ) : (stageShape t s).prevBtn = s.prevBtn := rfl
@[simp] theorem stageShape_shadow (t : Six ℚ) : (stageShape t s).shadow = s.shadow := rfl
@[simp] theorem stageShape_active (t : Six ℚ) : (stageShape t s).active = s.active := rfl
@[simp] theorem stageShape_cfgBusy (t : Six ℚ) : (stageShape t s).cfgBusy = s.cfgBusy := rfl
@[simp] theorem stageShape_cfgDirty (t : Six ℚ) : (stageShape t s).cfgDirty = s.cfgDirty := rfl
@[simp] theorem stageShape_cfgErr (t : Six ℚ) : (stageShape t s).cfgErr = s.cfgErr := rfl
@[simp] theorem stageShape_cmdErr (t : Six ℚ) : (stageShape t s).cmdErr = s.cmdErr := rfl
@[simp] theorem stageShape_seqErr (t : Six ℚ) : (stageShape t s).seqErr = s.seqErr := rfl
@[simp] theorem stageShape_trace (t : Six ℚ) : (stageShape t s).trace = s.trace := rfl
@[simp] theorem stageShape_rounding (t : Six ℚ) : (stageShape t s).rounding = s.rounding := rfl
@[simp] theorem stageShape_ctlIn (t : Six ℚ) : (stageShape t s).ctlIn = s.ctlIn := rfl
@[simp] theorem stageShape_cfgIn (t : Six ℚ) : (stageShape t s).cfgIn = s.cfgIn := rfl
@[simp] theorem stageShape_turns (t : Six ℚ) : (stageShape t s).turns = s.turns := rfl

end Sys2Proof.Machine
end

