-- ==== Sys2Proof/Laws/Ops.lean ====
section
/-! SUPPORT. For each shared operation, and for a step, what it can do, said once: the later proofs cite these and unfold
nothing. -/

namespace Sys2Proof.Machine

variable (s : State)

/-! ## The snapshot -/

/-- `snapshot()` does nothing, takes the shadow bank, or flags it. -/
theorem State.snapshot_cases :
    (s.snapshot = s ∧ s.snapshotTakes = false) ∨
    (s.cfgBusy = false ∧ s.cfgDirty = true ∧ cfgValid s.shadow = true ∧ s.snapshotTakes = true ∧
      s.snapshot = { s with cfgDirty := false, active := s.shadow }) ∨
    (s.cfgBusy = false ∧ s.cfgDirty = true ∧ cfgValid s.shadow = false ∧ s.snapshotTakes = false ∧
      s.snapshot = { s with cfgDirty := false, cfgErr := true }) := by
  unfold State.snapshot State.snapshotTakes
  cases hb : s.cfgBusy <;> cases hd : s.cfgDirty <;> cases hv : cfgValid s.shadow <;>
    simp [State.takeShadow, State.flagCfg]

/-- The snapshot as an update of the four fields it may write. -/
theorem State.snapshot_eq :
    s.snapshot = { s with
      active := s.snapshot.active, cfgDirty := s.snapshot.cfgDirty, cfgErr := s.snapshot.cfgErr } := by
  rcases s.snapshot_cases with h | h | h <;> simp [h]

/-- The bank in force after a snapshot is the old one, or the shadow bank, which is then valid. -/
theorem State.snapshot_active :
    s.snapshot.active = s.active ∨
    (s.snapshot.active = s.shadow ∧ s.cfgBusy = false ∧ s.cfgDirty = true ∧ cfgValid s.shadow = true) := by
  rcases s.snapshot_cases with h | h | h <;> simp [h]

/-- Stage S0 is the snapshot and at most one event. -/
theorem stageSnap_eq :
    stageSnap s = { s.snapshot with
      trace := s.trace ++
        (if s.snapshotTakes = true ∧ s.snapshot.active.pwmFrequency ≠ s.active.pwmFrequency
          then [Event.setFreq s.snapshot.active.pwmFrequency] else []) } := by
  have ht : s.snapshot.trace = s.trace := by rw [s.snapshot_eq]
  unfold stageSnap
  simp only
  split_ifs with h
  · simp [State.emit, ht]
  · simp [← ht]

/-! ## Starting, stopping, Failsafe -/

/-- `shutdown(c)` as one update. -/
theorem shutdown_eq (c : BitVec 4) :
    shutdown c s = { s with
      cur := .const (s.rounding.apply s.active.pwmMin), cur6 := s.active.ledOffUs
      integ := .const (s.rounding.apply 0), eprev := .const (s.rounding.apply 0), inHold := false
      ledOn := false, prevBtn := false, latest := GamepadFrame.neutral, ctl := .await, lastSeen := 0
      gyroBad := 0, cause := c, en := false
      trace := s.trace ++ [.write (.const (s.rounding.apply s.active.pwmMin)) s.active.ledOffUs, .drvDisable] } := by
  simp [shutdown, State.makeSafe, State.resetSupervisor, State.emit, State.setEnabled, State.writeEvent]

/-- The effects of an accepted `INIT` as one update. -/
theorem startEngine_eq :
    startEngine s = { s with
      cur := .const (s.rounding.apply s.active.pwmMin), cur6 := s.active.ledOffUs
      integ := .const (s.rounding.apply 0), eprev := .const (s.rounding.apply 0), inHold := false
      ledOn := false, prevBtn := false, latest := GamepadFrame.neutral, ctl := .await, lastSeen := 0
      gyroBad := 0, cause := 0, en := true
      trace := s.trace ++
        [.setFreq s.active.pwmFrequency, .write (.const (s.rounding.apply s.active.pwmMin)) s.active.ledOffUs,
          .drvEnable] } := by
  simp [startEngine, State.makeSafe, State.resetSupervisor, State.emit, State.setEnabled, State.writeEvent, causeNone]

/-- Failsafe entry: the shared part, or that and the shutdown. -/
theorem enterFailsafe_cases (c : BitVec 4) :
    (s.active.failsafeFatal = false ∧ enterFailsafe c s = failsafeState c s) ∨
    (s.active.failsafeFatal = true ∧ enterFailsafe c s = shutdown (8 + c) s) := by
  unfold enterFailsafe
  cases h : s.active.failsafeFatal
  · simp
  · right
    simp [shutdown_eq, failsafeState, State.makeSafe, causeFatal]

/-! ## Stage S1 -/

/-- The condition of a link timeout, in numbers. -/
theorem linkTimedOut_iff (P : Bank) (now last : BitVec 64) :
    linkTimedOut P now last = true ↔ P.connectionTimeoutSeconds * 10 ^ 6 < (elapsed now last : ℚ) := by
  rw [linkTimedOut, decide_eq_true_eq, Config.million, show (1000000 : ℚ) = 10 ^ 6 by norm_num]

/-- The condition of a gyro failure. -/
theorem gyroFailed_iff (P : Bank) (n : ℕ) : gyroFailed P n = true ↔ P.gyroFailLimit < (n : ℤ) := decide_eq_true_iff

/-- The first part of S1: an accepted frame is taken, or nothing happens. -/
theorem receive_cases (now : BitVec 64) (rx : Option Rx) :
    (∃ r, rx = some r ∧ accepted s.active rx = true ∧ receive now rx s = acceptFrame now r.frame s) ∨
    (accepted s.active rx = false ∧ receive now rx s = s) := by
  cases rx with
  | none => exact .inr ⟨rfl, rfl⟩
  | some r =>
    cases h : allowListed s.active r.src
    · exact .inr ⟨by simp [accepted, h], by simp [receive, h]⟩
    · exact .inl ⟨r, rfl, by simp [accepted, h], by simp [receive, h]⟩

/-- The state in which the supervisor's two conditions are tested: the frame received and the gyro counted. -/
def beforeSupervise (now : BitVec 64) (rx : Option Rx) (gyroValid : Bool) (s : State) : State :=
  countGyro gyroValid (receive now rx s)

/-- S1 ends with the frame received and the gyro counted, or with one Failsafe entry from there. -/
theorem stageLive_cases (now : BitVec 64) (rx : Option Rx) (v : Bool) :
    let u := beforeSupervise now rx v s
    (u.ctl ≠ .armed ∧ stageLive now rx v s = u) ∨
    (u.ctl = .armed ∧ linkTimedOut u.active now u.lastSeen = false ∧ gyroFailed u.active u.gyroBad = false ∧
      stageLive now rx v s = u) ∨
    (u.ctl = .armed ∧ linkTimedOut u.active now u.lastSeen = true ∧ stageLive now rx v s = enterFailsafe 1 u) ∨
    (u.ctl = .armed ∧ linkTimedOut u.active now u.lastSeen = false ∧ gyroFailed u.active u.gyroBad = true ∧
      stageLive now rx v s = enterFailsafe 2 u) := by
  simp only [stageLive, beforeSupervise, supervise, causeLinkTimeout, causeGyroFail]
  split_ifs with h1 h2 h3 <;> simp_all

/-- The frame of S1's first two parts. -/
theorem beforeSupervise_eq (now : BitVec 64) (rx : Option Rx) (v : Bool) :
    beforeSupervise now rx v s = { s with
      lastSeen := if accepted s.active rx then now else s.lastSeen
      latest := if accepted s.active rx then (rx.map Rx.frame).getD s.latest else s.latest
      ctl := if accepted s.active rx then .armed else s.ctl
      gyroBad := if v then 0 else min (s.gyroBad + 1) Config.gyroBadMax } := by
  rcases receive_cases s now rx with ⟨r, rfl, ha, h⟩ | ⟨ha, h⟩ <;>
    simp [beforeSupervise, h, ha, countGyro, acceptFrame]

/-! ## The tick -/

/-- A running tick ends at a fatal stop, or runs the stages after S1. -/
theorem runTick_cases (now : BitVec 64) (rx : Option Rx) (gyro : Option (Axes ℚ)) :
    let u := stageLive now rx gyro.isSome (stageSnap s)
    (u.en = true ∧ runTick now rx gyro s = stagesAfterLive gyro u) ∨ (u.en = false ∧ runTick now rx gyro s = u) := by
  simp only [runTick]
  cases (stageLive now rx gyro.isSome (stageSnap s)).en <;> simp

/-- The stabilizer writes its own registers and nothing else. -/
theorem stageStab_eq (gyro : Option (Axes ℚ)) :
    (stageStab gyro s).1 = { s with
      integ := (stageStab gyro s).1.integ, eprev := (stageStab gyro s).1.eprev
      inHold := (stageStab gyro s).1.inHold } := by
  unfold stageStab
  split
  · have hu : updateHold s = { s with
        integ := (updateHold s).integ, eprev := (updateHold s).eprev, inHold := (updateHold s).inHold } := by
      simp only [updateHold]
      split <;> rfl
    cases gyro with
    | none => simp only [stabPidHold, State.zeroStab]; rw [hu]
    | some r => simp only [stabPidHold, pidRegisters]; rw [hu]
  · cases gyro <;> rfl

/-- Stages S3 to S5 write the stabilizer registers and nothing else. -/
theorem stageTargets_eq (gyro : Option (Axes ℚ)) :
    (stageTargets gyro s).1 = { s with
      integ := (stageTargets gyro s).1.integ, eprev := (stageTargets gyro s).1.eprev
      inHold := (stageTargets gyro s).1.inHold } := by
  unfold stageTargets
  split
  · exact stageStab_eq s gyro
  · rfl

/-- The stages after S1 as one update of the state S1 left. -/
theorem stagesAfterLive_eq (gyro : Option (Axes ℚ)) :
    stagesAfterLive gyro s =
      let u := stageLed s
      let r := stageTargets gyro u
      let cur := (stageShape r.2 r.1).cur
      { s with
        ledOn := u.ledOn, prevBtn := u.prevBtn, cur6 := u.cur6, integ := r.1.integ, eprev := r.1.eprev
        inHold := r.1.inHold, cur := cur, trace := s.trace ++ [.write cur u.cur6] } := by
  simp only [stagesAfterLive, stageWrite, State.emit, State.writeEvent, stageShape]
  rw [stageTargets_eq]
  rfl

/-! ## Frames -/

/-- Failsafe entry writes no bank, no bracket bit, no sticky flag, no port and no rounding. -/
theorem enterFailsafe_eq (c : BitVec 4) :
    enterFailsafe c s =
      let t := enterFailsafe c s
      { s with
        cur := t.cur, cur6 := t.cur6, integ := t.integ, eprev := t.eprev, inHold := t.inHold, ctl := t.ctl, en := t.en
        lastSeen := t.lastSeen, latest := t.latest, gyroBad := t.gyroBad, cause := t.cause, ledOn := t.ledOn
        prevBtn := t.prevBtn, trace := t.trace } := by
  rcases enterFailsafe_cases s c with ⟨_, h⟩ | ⟨_, h⟩ <;> rw [h]
  · rfl
  · rw [shutdown_eq]

/-- Neither does stage S1. -/
theorem stageLive_eq (now : BitVec 64) (rx : Option Rx) (v : Bool) :
    stageLive now rx v s =
      let t := stageLive now rx v s
      { s with
        cur := t.cur, cur6 := t.cur6, integ := t.integ, eprev := t.eprev, inHold := t.inHold, ctl := t.ctl, en := t.en
        lastSeen := t.lastSeen, latest := t.latest, gyroBad := t.gyroBad, cause := t.cause, ledOn := t.ledOn
        prevBtn := t.prevBtn, trace := t.trace } := by
  have hb := beforeSupervise_eq s now rx v
  rcases stageLive_cases s now rx v with ⟨_, h⟩ | ⟨_, _, _, h⟩ | ⟨_, _, h⟩ | ⟨_, _, _, h⟩ <;> rw [h]
  · rw [hb]
  · rw [hb]
  · rw [enterFailsafe_eq, hb]
  · rw [enterFailsafe_eq, hb]

/-- A running tick writes, beside those, the bank in force and the two flags of its snapshot. -/
theorem runTick_eq (now : BitVec 64) (rx : Option Rx) (gyro : Option (Axes ℚ)) :
    runTick now rx gyro s =
      let t := runTick now rx gyro s
      { s with
        cur := t.cur, cur6 := t.cur6, integ := t.integ, eprev := t.eprev, inHold := t.inHold, ctl := t.ctl, en := t.en
        lastSeen := t.lastSeen, latest := t.latest, gyroBad := t.gyroBad, cause := t.cause, ledOn := t.ledOn
        prevBtn := t.prevBtn, trace := t.trace, active := s.snapshot.active, cfgDirty := s.snapshot.cfgDirty
        cfgErr := s.snapshot.cfgErr } := by
  have h0 : stageSnap s = { s with
      active := s.snapshot.active, cfgDirty := s.snapshot.cfgDirty, cfgErr := s.snapshot.cfgErr
      trace := (stageSnap s).trace } := by
    rw [stageSnap_eq]
    simp only
    conv_lhs => rw [s.snapshot_eq]
  rcases runTick_cases s now rx gyro with ⟨_, h⟩ | ⟨_, h⟩ <;> rw [h]
  · rw [stagesAfterLive_eq, stageLive_eq, h0]
  · rw [stageLive_eq, h0]

/-! ## The ports and the step -/

@[simp] theorem State.stream_nextTurn (p : Port) : s.nextTurn.stream p = s.stream p := by
  cases p <;> rfl

/-- What a step can do: nothing, use up a turn, refuse an illegal word, or execute the decoded command. -/
theorem step_cases :
    (s.turns = [] ∧ step s = .next s) ∨
    ∃ p r, s.turns = p :: r ∧
      ((decode p (s.stream p) = .incomplete ∧ step s = .next s.nextTurn) ∨
       (∃ why n, decode p (s.stream p) = .illegal why n ∧ step s = .next (s.nextTurn.consume p n).refuseCmd) ∨
       (∃ i n, decode p (s.stream p) = .command i n ∧ step s = exec i (s.nextTurn.consume p n))) := by
  unfold step fetch
  cases hs : s.turns with
  | nil => exact .inl ⟨rfl, rfl⟩
  | cons p r =>
    refine .inr ⟨p, r, rfl, ?_⟩
    cases hd : decode p (s.stream p) with
    | incomplete => exact .inl ⟨rfl, by simp [hd]⟩
    | illegal why n => exact .inr (.inl ⟨why, n, rfl, by simp [hd]⟩)
    | command i n => exact .inr (.inr ⟨i, n, rfl, by simp [hd]⟩)

/-- The state that an answer holds. -/
def nextOf (r : Result) : State :=
  match r with
  | .next t => t
  | .fault _ => State.reset
  | .refused _ => State.reset

/-- Every command answers a next state from every state. -/
theorem exec_answers_next (i : Instr) : exec i s = .next (nextOf (exec i s)) := by
  cases i <;>
    simp only [exec, execInit, execTick, execDisable, execCfgbegin, execCfgwr, execCfgend] <;> (repeat' split) <;> rfl

/-- Every step answers a next state from every state. -/
theorem step_answers_next : step s = .next (nextOf (step s)) := by
  rcases step_cases s with ⟨_, h⟩ | ⟨p, r, _, ⟨_, h⟩ | ⟨_, _, _, h⟩ | ⟨i, n, _, h⟩⟩ <;> rw [h]
  · rfl
  · rfl
  · rfl
  · exact exec_answers_next _ i

/-- A run of `k + 1` steps is a step and a run of `k`. -/
theorem core_run_next {s t : State} (k : ℕ) (h : step s = .next t) :
    Sys2Proof.core.run (k + 1) s = Sys2Proof.core.run k t := by
  have general : ∀ (M : Host.Core) (a b : M.State), M.step a = .next b → M.run (k + 1) a = M.run k b := by
    intro M a b hab
    simp only [Host.Core.run, hab]
  exact general Sys2Proof.core s t h

/-- Taking words off a port writes the two streams at most. -/
theorem State.consume_eq (p : Port) (n : ℕ) :
    s.consume p n = { s with ctlIn := (s.consume p n).ctlIn, cfgIn := (s.consume p n).cfgIn } := by
  cases p <;> rfl

end Sys2Proof.Machine
end

