-- ==== Sys2Proof/Laws/PerInstr.lean ====
section
/-! SUPPORT. The per-instruction family `EncodedLength`: the words of every command begin with a header that is legal on
the command's port, and are as many as that header's opcode says (spec R70, R72, R82). -/

namespace Sys2Proof.Laws

/-- The words of `i` are a legal header of the command's port and the payload words its opcode asks for. -/
def EncodedLength.Statement (i : Instr) : Prop :=
  ∃ op w rest, encode i = w :: rest ∧ decodeHeader i.port w = .ok op ∧ rest.length = op.payload

theorem EncodedLength.init : EncodedLength.Statement .init := ⟨.init, _, _, rfl, rfl, rfl⟩

theorem EncodedLength.tick (now : BitVec 64) (rx : Option Rx) (gyro : Option GyroWords) :
    EncodedLength.Statement (.tick now rx gyro) := by
  have h := encode_length (.tick now rx gyro)
  exact ⟨.tick, _, _, rfl, decodeHeader_tick _ _, Nat.succ.inj h⟩

theorem EncodedLength.disable : EncodedLength.Statement .disable := ⟨.disable, _, _, rfl, rfl, rfl⟩

theorem EncodedLength.cfgbegin : EncodedLength.Statement .cfgbegin := ⟨.cfgbegin, _, _, rfl, rfl, rfl⟩

theorem EncodedLength.cfgwr (idx : BitVec 5) (value : Word) : EncodedLength.Statement (.cfgwr idx value) :=
  ⟨.cfgwr, _, _, rfl, decodeHeader_cfgwr idx, rfl⟩

theorem EncodedLength.cfgend : EncodedLength.Statement .cfgend := ⟨.cfgend, _, _, rfl, rfl, rfl⟩

end Sys2Proof.Laws
end

