-- ==== Sys2Proof/Tests/Slice0.lean ====
section
/-! SUPPORT. The model's own tests: words written out from the encodings of the spec, the refusals of `wellFormedOn`, one
step per command with the values of spec/95_test_vectors.md, and for every statement with hypotheses a state that meets
them. -/

namespace Sys2Proof.Tests

open Sys2Proof.Machine Sys2Proof.Safety

/-! ## Configuration T0 and the states the tests start from -/

/-- T0, the words of spec/95_test_vectors.md section 1. -/
def t0Words : List (BitVec 5 × Word) :=
  [(1, 0x00001964), (2, 0x4190AB00), (3, 0x59682F00), (4, 0x59682F00), (5, 0x713FB300), (6, 0x02FAF080),
    (7, 0x0003D090), (8, 0x0007A120), (9, 0x0007A120), (10, 0x0007A120), (11, 0x001E8480), (12, 0x00989680),
    (13, 0x0007A120), (14, 0x00002710), (15, 1), (16, 0x713FB300), (17, 0x4190AB00), (18, 0x00004E20),
    (19, 0x0007A120), (20, 0x000F4240)]

def t0 : Bank := t0Words.foldl (fun B w => B.write w.1.toFin w.2) Bank.zero

/-- After `CFGLOAD T0` from reset. -/
def loaded : State := { State.reset with shadow := t0, cfgDirty := true }

/-- `BOOT(T0)`, the trace left out. -/
def booted : State :=
  { State.reset with shadow := t0, active := t0, cur := .const 1100, cur6 := 1100, en := true }

/-- `ARM(B)` with `last_seen = 1000000`, the bank `B` in force. -/
def armedOn (B : Bank) : State := { booted with active := B, ctl := .armed, lastSeen := 1000000 }

def armed : State := armedOn t0

/-- T0 with another `MODE` word. -/
def t0Mode (w : Word) : Bank := t0.write 0 w

/-- A frame with one stick away from rest. -/
def rotating (v : BitVec 16) : GamepadFrame := { GamepadFrame.neutral with leftX := v }
def strafing (v : BitVec 16) : GamepadFrame := { GamepadFrame.neutral with rightX := v }

/-- A state in which port `p` has the next turn and the words `ws` waiting. -/
def waiting (s : State) (p : Port) (ws : List Word) : State := { s.setStream p ws with turns := [p] }

/-! ## Decoding: words from R73 to R75 and the vectors V-E1 to V-E24 -/

theorem test_decode_init : decode .ctl [0x01000000] = .command .init 1 := by decide
theorem test_decode_disable : decode .ctl [0x03000000] = .command .disable 1 := by decide
theorem test_decode_cfgbegin : decode .cfgp [0x04000000] = .command .cfgbegin 1 := by decide
theorem test_decode_cfgend : decode .cfgp [0x06000000] = .command .cfgend 1 := by decide

/-- V-E6 -/
theorem test_decode_cfgwr : decode .cfgp [0x0500001F, 0xFFFFFFFF] = .command (.cfgwr 31 0xFFFFFFFF) 2 := by decide

/-- V-E10: `−10267` stands in `W5[15:0]` -/
theorem test_decode_tick :
    decode .ctl [0x02000003, 0x00007530, 0, 1, 0, 0x0000D7E5, 0, 0, 0x01312D00, 0, 0] =
      .command (.tick 30000 (some ⟨1, ⟨0, 0, BitVec.ofInt 16 (-10267), 0, 0, 0, 0⟩⟩) (some ⟨0x01312D00, 0, 0⟩)) 11 := by
  decide

/-- V-E12: the low word of `now` comes first -/
theorem test_decode_tick_now :
    decode .ctl [0x02000002, 0, 1, 0, 0, 0, 0, 0, 0, 0, 0] = .command (.tick 4294967296 none (some ⟨0, 0, 0⟩)) 11 := by
  decide

/-- V-E23: without `rx_valid` the words W3 to W7 are ignored -/
theorem test_decode_tick_ignored :
    decode .ctl [0x02000002, 5, 0, 0xFFFFFFFF, 0xFFFFFFFF, 0xFFFFFFFF, 0xFFFFFFFF, 0xFFFFFFFF, 0, 0, 0] =
      .command (.tick 5 none (some ⟨0, 0, 0⟩)) 11 := by decide

/-- V-E15 to V-E22 -/
theorem test_decode_illegal :
    decode .ctl [0] = .illegal .unassignedOpcode 1 ∧ decode .cfgp [0] = .illegal .unassignedOpcode 1 ∧
    decode .ctl [0x07000000] = .illegal .unassignedOpcode 1 ∧ decode .ctl [0x01000001] = .illegal .reservedArgBit 1 ∧
    decode .ctl [0x02000004] = .illegal .reservedArgBit 1 ∧ decode .cfgp [0x05000020] = .illegal .reservedArgBit 1 ∧
    decode .cfgp [0x01000000] = .illegal .wrongPort 1 ∧ decode .ctl [0x04000000] = .illegal .wrongPort 1 ∧
    decode .ctl [0x02000001, 0, 0, 0, 0, 0, 0, 0x00010000, 0, 0, 0] = .illegal .reservedButtonsBit 11 := by decide

/-- The opcode table's numbering: a `CFGWR` whose payload the table gives no bits, and a `TICK` header alone. -/
theorem test_decodeTableWord :
    decodeTableWord 32 0x0500001F = some (.cfgwr 31 0) ∧ decodeTableWord 32 0x02000000 = some (.tick 0 none none) ∧
    decodeTableWord 32 0x07000000 = none := by decide

/-- A row's command is the first one to run after reset: V-K2, `TICK` before `INIT` is refused. -/
theorem test_withFetchWord : step (State.reset.withFetchWord 32 0x02000000) = .next { State.reset with seqErr := true } :=
  rfl

/-! ## What the checks refuse -/

/-- A command on the wrong port (R70). -/
theorem test_wellFormedOn :
    Instr.wellFormedOn .cfgp .init = false ∧ Instr.wellFormedOn .cfgp (.tick 0 none none) = false ∧
    Instr.wellFormedOn .cfgp .disable = false ∧ Instr.wellFormedOn .ctl .cfgbegin = false ∧
    Instr.wellFormedOn .ctl (.cfgwr 0 0) = false ∧ Instr.wellFormedOn .ctl .cfgend = false := by decide

theorem t0_valid : cfgValid t0 = true := by decide +kernel

/-- One bank for each of V1 to V8 (R40) that breaks this condition: a reserved `MODE` bit, `deadzone` 32767, `pwm_min`
1600, `pwm_frequency` 0, `led_on_us` −1 millionth, a factor of 1.000001, `loop_period` 0, `max_accel` −1. -/
theorem test_cfgValid_refuses :
    cfgValid (t0.write 0 0x40) = false ∧ cfgValid (t0.write 1 32767) = false ∧ cfgValid (t0.write 2 0x5F5E1000) = false ∧
    cfgValid (t0.write 6 0) = false ∧ cfgValid (t0.write 16 0xFFFFFFFF) = false ∧
    cfgValid (t0.write 7 0x000F4241) = false ∧ cfgValid (t0.write 14 0) = false ∧
    cfgValid (t0.write 18 0xFFFFFFFF) = false := by decide +kernel

/-! ## One step of each command -/

/-- V-K8: the three events of `INIT` and the status word -/
theorem test_init :
    (nextOf (exec .init loaded)).trace = [.setFreq 50, .write (.const 1100) 1100, .drvEnable] ∧
    statusWord (nextOf (exec .init loaded)) = 0x00000004 := by decide +kernel

/-- V-K1: the all-zero bank is not valid -/
theorem test_init_invalid : statusWord (nextOf (exec .init State.reset)) = 0x00000100 := by decide +kernel

/-- V-L2, V-S1: the first accepted frame, `rightY = 20000`, moves the forward channels to 34293700/26267 at once -/
theorem test_tick_forward :
    (nextOf (exec (.tick 0 (some ⟨1, ⟨0, 0, 0, 20000, 0, 0, 0⟩⟩) (some ⟨0, 0, 0⟩)) booted)).cur =
      ⟨1100, 1100, 1100, 1100, 34293700 / 26267, 34293700 / 26267⟩ := by decide +kernel

/-- V-L4, V-L5: the comparison of the timeout is strict -/
theorem test_tick_timeout :
    (nextOf (exec (.tick 1500000 none (some ⟨0, 0, 0⟩)) armed)).ctl = .armed ∧
    statusWord (nextOf (exec (.tick 1500001 none (some ⟨0, 0, 0⟩)) armed)) = 0x00001006 := by decide +kernel

/-- V-K11 -/
theorem test_disable :
    (nextOf (exec .disable armed)).trace = [.write (.const 1100) 1100, .drvDisable] ∧
    statusWord (nextOf (exec .disable armed)) = 0x00004000 := by decide +kernel

/-- V-K6: the second `CFGBEGIN` is refused -/
theorem test_cfgbegin : statusWord (nextOf (exec .cfgbegin (nextOf (exec .cfgbegin State.reset)))) = 0x00000420 := by decide

/-- V-K4: refused outside a bracket; inside one the word is written -/
theorem test_cfgwr :
    (nextOf (exec (.cfgwr 1 5) State.reset)).shadow.read 1 = 0 ∧
    (nextOf (exec (.cfgwr 1 5) { State.reset with cfgBusy := true })).shadow.read 1 = 5 := by decide

/-- V-K7, V-K5 -/
theorem test_cfgend :
    statusWord (nextOf (exec .cfgend { State.reset with cfgBusy := true })) = 0x00000040 ∧
    statusWord (nextOf (exec .cfgend State.reset)) = 0x00000400 := by decide

/-- V-M11, configuration T1: the boost goes to channel 3 -/
theorem test_mix_boost :
    stageMix (t0.write 1 2767) { GamepadFrame.neutral with leftX := 17767, rightX := BitVec.ofInt 16 (-10267) } =
      ⟨1300, 1200, 1100, 1400, 1100, 1100⟩ := by decide +kernel

/-- V-D5, V-D7, V-D12: blanks trimmed; buttons truncated; one bad token -/
theorem test_decodeLine :
    decodeLine " 7 ,\t-8,+9,10\r\n" = ⟨7, BitVec.ofInt 16 (-8), 9, 10, 0, 0, 0⟩ ∧
    decodeLine "1,2,3,4,5,6,-1" = ⟨1, 2, 3, 4, 5, 6, 65535⟩ ∧ decodeLine "1,2,3,x" = GamepadFrame.neutral := by
  decide +kernel

/-- V-E5: `MODESET failsafe_fatal=1` -/
theorem test_modeset : modeset { failsafeFatal := true } = [.cfgbegin, .cfgwr 0 0x10, .cfgend] := by decide

/-! ## Witnesses: for every statement with hypotheses, states and operands that meet all of them together

Where a statement has several clauses, one conjunct for each, at the values where the clauses meet. -/

theorem witness_DecodeEncodeRoundTrip :
    Instr.wellFormedOn .ctl (.tick 0xFFFFFFFFFFFFFFFF (some ⟨0xFFFFFFFF, ⟨1, 2, 3, 4, 5, 6, 0xFFFF⟩⟩) none) = true ∧
    Instr.wellFormedOn .cfgp (.cfgwr 31 0xFFFFFFFF) = true := by decide

/-- Nothing of a command has arrived, and all but the last word of it. -/
theorem witness_PartlyDeliveredCommandHasNoEffect :
    let i : Instr := .cfgwr 5 0x713FB300
    let s0 := waiting State.reset .cfgp []
    let s1 := waiting State.reset .cfgp [0x05000005]
    i.wellFormedOn .cfgp = true ∧ 1 < (encode i).length ∧ s0.turns = .cfgp :: [] ∧
      s0.stream .cfgp = (encode i).take 0 ∧ s1.turns = .cfgp :: [] ∧ s1.stream .cfgp = (encode i).take 1 := by decide

/-- The first and the last unassigned opcode at each end, a command on the wrong port from each side, the lowest bit
outside a field for each format; the `TICK` of V-E22; the legal headers, one for each command and valid bit; a `TICK`
without `rx_valid` whose ignored `W7[31:16]` is not 0. -/
theorem witness_IllegalWordsAreRefusedAndConsumed :
    (headerIllegal .ctl 0x00FFFFFF ∧ headerIllegal .ctl 0x07000000 ∧ headerIllegal .cfgp 0xFF000000 ∧
      headerIllegal .ctl 0x04000000 ∧ headerIllegal .cfgp 0x03000000 ∧ headerIllegal .ctl 0x02000004 ∧
      headerIllegal .cfgp 0x05000020 ∧ headerIllegal .ctl 0x01000001) ∧
    (waiting State.reset .ctl [0x07000000, 5]).turns = [.ctl] ∧
    (waiting State.reset .ctl [0x07000000, 5]).stream .ctl = [0x07000000, 5] ∧
    (¬ headerIllegal .ctl 0x02000001 ∧ (0x02000001 : Word).toNat / 2 ^ 24 = 2 ∧ (0x02000001 : Word).toNat % 2 = 1 ∧
      (0x00010000 : Word).toNat / 2 ^ 16 ≠ 0) ∧
    (¬ headerIllegal .ctl 0x02000003 ∧ ¬ headerIllegal .cfgp 0x0500001F) ∧
    (¬ headerIllegal .ctl 0x01000000 ∧ (0x01000000 : Word).toNat / 2 ^ 24 = 1) ∧
    (¬ headerIllegal .ctl 0x03000000 ∧ (0x03000000 : Word).toNat / 2 ^ 24 = 3) ∧
    (¬ headerIllegal .cfgp 0x04000000 ∧ (0x04000000 : Word).toNat / 2 ^ 24 = 4) ∧
    (¬ headerIllegal .cfgp 0x06000000 ∧ (0x06000000 : Word).toNat / 2 ^ 24 = 6) ∧
    (0x0500001F : Word).toNat / 2 ^ 24 = 5 ∧
    ((0x02000003 : Word).toNat % 2 = 1 ∧ (0x0000FFFF : Word).toNat / 2 ^ 16 = 0) ∧
    (¬ headerIllegal .ctl 0x02000002 ∧ (0x02000002 : Word).toNat / 2 ^ 24 = 2 ∧ (0x02000002 : Word).toNat % 2 = 0) ∧
    ((0x02000001 : Word).toNat / 2 % 2 = 0) ∧
    10 ≤ (List.replicate 10 (0 : Word)).length := by
  simp [headerIllegal, waiting, State.setStream, State.stream]

theorem witness_StepRunsDecodedCommand :
    (waiting booted .ctl [0x03000000]).turns = .ctl :: [] ∧
    decode .ctl ((waiting booted .ctl [0x03000000]).stream .ctl) = .command .disable 1 := by decide

theorem witness_EachPortKeepsItsOwnOrder :
    State.reset.turns = [] ∧ (waiting booted .ctl [0x03000000]).turns = .ctl :: [] ∧
    (waiting booted .cfgp [0x04000000]).turns = .cfgp :: [] ∧
    step (waiting booted .ctl [0x03000000]) = .next (nextOf (step (waiting booted .ctl [0x03000000]))) ∧
    step (waiting booted .cfgp [0x04000000]) = .next (nextOf (step (waiting booted .cfgp [0x04000000]))) :=
  ⟨rfl, rfl, rfl, step_answers_next _, step_answers_next _⟩

/-- Both ends of the range, and the first values outside it. -/
theorem witness_F6EncodingRoundsDown :
    (-2 ^ 31 ≤ (-2147483648 / 1000000 : ℚ) * 1000000 ∧ (-2147483648 / 1000000 : ℚ) * 1000000 < 2 ^ 31) ∧
    (2147483647 / 1000000 : ℚ) * 1000000 < 2 ^ 31 ∧ 2 ^ 31 ≤ (2147483648 / 1000000 : ℚ) * 1000000 ∧
    (-2147483649 / 1000000 : ℚ) * 1000000 < -2 ^ 31 := by norm_num

theorem witness_StatusWordAndStickyFlags :
    let s : State := { waiting booted .ctl [0x03000000] with cfgErr := true, cmdErr := true, seqErr := true }
    step s = .next (nextOf (step s)) ∧ s.cfgErr = true ∧ s.cmdErr = true ∧ s.seqErr = true :=
  ⟨step_answers_next _, rfl, rfl, rfl⟩

theorem witness_OutputTraceIsAppendOnly :
    step (waiting booted .ctl [0x03000000]) = .next (nextOf (step (waiting booted .ctl [0x03000000]))) :=
  step_answers_next _

/-- For CfgbeginOpensTheBracket, CfgwrWritesOneShadowWord, CfgendOffersTheShadowBank, CfgloadPublishesItsWrites and
OpenBracketHidesTheShadowBank: a state on each side. -/
theorem witness_configuration_brackets :
    State.reset.cfgBusy = false ∧ ({ loaded with cfgBusy := true } : State).cfgBusy = true := ⟨rfl, rfl⟩

theorem witness_SnapshotTakesAWholeValidBank :
    ({ loaded with cfgBusy := true } : State).cfgBusy = true ∧ State.reset.cfgDirty = false ∧
    (loaded.cfgBusy = false ∧ loaded.cfgDirty = true ∧ cfgValid loaded.shadow = true) ∧
    ({ loaded with shadow := Bank.zero } : State).cfgDirty = true ∧
    cfgValid ({ loaded with shadow := Bank.zero } : State).shadow = false ∧ booted.en = true ∧ loaded.en = false :=
  ⟨rfl, rfl, ⟨rfl, rfl, t0_valid⟩, rfl, cfgValid_zero, rfl, rfl⟩

theorem witness_BootSequenceStartsTheEngine :
    cfgValid (t0Words.foldl (fun B w => B.write w.1.toFin w.2) Bank.zero) = true ∧
    cfgValid (([] : List (BitVec 5 × Word)).foldl (fun B w => B.write w.1.toFin w.2) Bank.zero) = false :=
  ⟨t0_valid, cfgValid_zero⟩

theorem witness_ActiveBankIsNeverTorn :
    let s := waiting loaded .ctl [0x01000000]
    Sys2Proof.core.run 1 s = .next (nextOf (step s)) := core_run_next 0 (step_answers_next _)

theorem witness_InitStartsTheEngine :
    booted.en = true ∧ (State.reset.en = false ∧ cfgValid State.reset.snapshot.active = false) ∧
    loaded.en = false ∧ cfgValid loaded.snapshot.active = true := by decide +kernel

/-- For DisableShutsTheEngineDown, RunningTickCompletesWithOneWrite, TickLeavesConfigurationInputsAlone and
GyroFailuresAreCounted: a running and a stopped engine. -/
theorem witness_DisableShutsTheEngineDown : booted.en = true ∧ State.reset.en = false := ⟨rfl, rfl⟩

theorem witness_ArmedTickRunsTheFullPipeline :
    armed.en = true ∧ (afterLive 1500000 none (some ⟨0, 0, 0⟩) armed).ctl = .armed := by decide +kernel

theorem witness_UnarmedTickDrivesToMinimum :
    booted.en = true ∧ (afterLive 0 none none booted).en = true ∧ (afterLive 0 none none booted).ctl ≠ .armed := by
  decide +kernel

/-- No timeout at 500000 µs, a timeout at 500001 µs; no gyro failure at a count of 0, one at a count of 1. -/
theorem witness_LivenessStageInOrder :
    booted.ctl ≠ .armed ∧ armed.ctl = .armed ∧
    ¬ t0.connectionTimeoutSeconds * 10 ^ 6 < ((1500000 - 1000000 : ℕ) : ℚ) ∧
    t0.connectionTimeoutSeconds * 10 ^ 6 < ((1500001 - 1000000 : ℕ) : ℚ) ∧
    ¬ t0.gyroFailLimit < ((0 : ℕ) : ℤ) ∧ t0.gyroFailLimit < ((min (armed.gyroBad + 1) (2 ^ 32 - 1) : ℕ) : ℤ) := by
  decide +kernel

theorem witness_FailsafeEntryForcesTheSafeState :
    armed.active.failsafeFatal = false ∧ (armedOn (t0Mode 0x10)).active.failsafeFatal = true ∧
    ({ armed with ctl := .failsafe } : State).ctl = .failsafe := by decide +kernel

/-- The first tick past the timeout, one at the timeout whose gyro read fails, and the tick of the very first accepted
frame whose gyro read fails. -/
theorem witness_FatalFailsafeStopsTheEngine :
    let s := armedOn (t0Mode 0x10)
    s.en = true ∧ s.ctl = .armed ∧ accepted (bankInForce s) none = false ∧ (bankInForce s).failsafeFatal = true ∧
    (bankInForce s).connectionTimeoutSeconds * 10 ^ 6 < (elapsed 1500001 s.lastSeen : ℚ) ∧
    ¬ (bankInForce s).connectionTimeoutSeconds * 10 ^ 6 < (elapsed 1500000 s.lastSeen : ℚ) ∧
    (bankInForce s).gyroFailLimit < ((min (s.gyroBad + 1) (2 ^ 32 - 1) : ℕ) : ℤ) ∧
    let u : State := { booted with active := t0Mode 0x10 }
    u.en = true ∧ accepted (bankInForce u) (some ⟨1, GamepadFrame.neutral⟩) = true ∧
    (bankInForce u).failsafeFatal = true ∧ cfgValid (bankInForce u) = true ∧
    (bankInForce u).gyroFailLimit < ((min (u.gyroBad + 1) (2 ^ 32 - 1) : ℕ) : ℤ) := by decide +kernel

theorem witness_LinkTimeoutForcesSafeOutputs :
    armed.en = true ∧ armed.ctl = .armed ∧ cfgValid (bankInForce armed) = true ∧
    accepted (bankInForce armed) none = false ∧ (bankInForce armed).failsafeFatal = false ∧
    armed.rounding.apply (bankInForce armed).pwmMin = (bankInForce armed).pwmMin ∧
    armed.lastSeen.toNat ≤ (1500001 : BitVec 64).toNat ∧
    (bankInForce armed).connectionTimeoutSeconds * 10 ^ 6 <
      (((1500001 : BitVec 64).toNat : ℚ) - armed.lastSeen.toNat) := by
  refine ⟨rfl, rfl, ?_, ?_, ?_, rfl, ?_, ?_⟩ <;> decide +kernel

/-- At the timeout exactly, and with the clock running backwards. -/
theorem witness_TickWithinTheTimeoutStaysArmed :
    armed.en = true ∧ armed.ctl = .armed ∧ cfgValid (bankInForce armed) = true ∧
    accepted (bankInForce armed) none = false ∧
    (((1500000 : BitVec 64).toNat : ℚ) - armed.lastSeen.toNat) ≤ (bankInForce armed).connectionTimeoutSeconds * 10 ^ 6 ∧
    (((0 : BitVec 64).toNat : ℚ) - armed.lastSeen.toNat) ≤ (bankInForce armed).connectionTimeoutSeconds * 10 ^ 6 ∧
    ((0 : ℕ) : ℤ) ≤ (bankInForce armed).gyroFailLimit := by decide +kernel

/-- Armed at the timeout, and the very first accepted frame. -/
theorem witness_GyroFailureEntersFailsafe :
    (armed.en = true ∧ cfgValid (bankInForce armed) = true ∧ (bankInForce armed).failsafeFatal = false ∧
      armed.ctl = .armed ∧ (elapsed 1500000 armed.lastSeen : ℚ) ≤ (bankInForce armed).connectionTimeoutSeconds * 10 ^ 6 ∧
      (bankInForce armed).gyroFailLimit < ((min (armed.gyroBad + 1) (2 ^ 32 - 1) : ℕ) : ℤ)) ∧
    (booted.en = true ∧ accepted (bankInForce booted) (some ⟨1, GamepadFrame.neutral⟩) = true ∧
      (bankInForce booted).gyroFailLimit < ((min (booted.gyroBad + 1) (2 ^ 32 - 1) : ℕ) : ℤ)) := by decide +kernel

/-- By the peer's address, and by the wildcard. -/
theorem witness_AcceptedFrameArmsTheBlock :
    let any : State := { booted with active := t0Mode 0x20 }
    (booted.en = true ∧ cfgValid (bankInForce booted) = true ∧ (1 : Word) = (bankInForce booted).peerAddr ∧
      ((0 : ℕ) : ℤ) ≤ (bankInForce booted).gyroFailLimit) ∧
    any.en = true ∧ cfgValid (bankInForce any) = true ∧ (bankInForce any).peerAny = true ∧
      ((0 : ℕ) : ℤ) ≤ (bankInForce any).gyroFailLimit := by decide +kernel

theorem witness_UnknownPeerFrameHasNoEffect :
    (bankInForce armed).peerAny = false ∧ (9 : Word) ≠ (bankInForce armed).peerAddr := by decide +kernel

theorem witness_ControlStateTransitions :
    let tick : Instr := .tick 1500001 none none
    let first : Instr := .tick 0 (some ⟨1, GamepadFrame.neutral⟩) none
    (booted.en = true ∧ cfgValid (bankInForce booted) = true ∧ exec tick booted = .next (nextOf (exec tick booted)) ∧
      accepted (bankInForce booted) none = false ∧ booted.ctl ≠ .armed) ∧
    (armed.en = true ∧ cfgValid (bankInForce armed) = true ∧ exec tick armed = .next (nextOf (exec tick armed)) ∧
      accepted (bankInForce armed) none = false ∧ armed.ctl = .armed) ∧
    (exec first booted = .next (nextOf (exec first booted)) ∧
      accepted (bankInForce booted) (some ⟨1, GamepadFrame.neutral⟩) = true) ∧
    Instr.cfgbegin.port = .cfgp ∧ exec .cfgbegin armed = .next (nextOf (exec .cfgbegin armed)) := by
  refine ⟨⟨rfl, ?_, exec_answers_next _ _, ?_, ?_⟩, ⟨rfl, ?_, exec_answers_next _ _, ?_, rfl⟩,
    ⟨exec_answers_next _ _, ?_⟩, rfl, exec_answers_next _ _⟩ <;> decide +kernel

theorem booted_quiet : Quiet booted :=
  ⟨rfl, rfl, rfl, rfl, fun a => .inl (by cases a <;> rfl), fun a => .inl (by cases a <;> rfl)⟩

theorem booted_pwmMin : booted.active.pwmMin = 1100 := by decide +kernel

theorem booted_safe : SafeOutputs booted := by
  refine ⟨fun i => ?_, ?_, rfl⟩
  · rw [booted_pwmMin]
    exact Six.get_const (booted.rounding.apply 1100) i
  · decide +kernel

theorem witness_UnarmedTickHoldsSafeOutputs :
    booted.en = true ∧ booted.ctl ≠ .armed ∧ cfgValid booted.active = true ∧ booted.snapshotTakes = false ∧
    accepted booted.active none = false ∧ SafeOutputs booted ∧ Quiet booted ∧
    booted.rounding.apply booted.active.pwmMin = booted.active.pwmMin :=
  ⟨rfl, by decide, t0_valid, rfl, rfl, booted_safe, booted_quiet, rfl⟩

theorem witness_LedTogglesOnARisingEdge : booted.latest = GamepadFrame.neutral ∧ booted.ledOn = false := ⟨rfl, rfl⟩

/-- Two frames with the designated bit pressed, other bits changing; the bit not pressed before, and pressed before. -/
theorem witness_HeldButtonTogglesTheLedOnce :
    (∀ g ∈ [({ GamepadFrame.neutral with buttons := 1 } : GamepadFrame), { GamepadFrame.neutral with buttons := 9 }],
      g.buttons.getLsbD booted.active.ledButtonBit = true) ∧
    booted.prevBtn = false ∧ ({ booted with prevBtn := true } : State).prevBtn = true := by decide +kernel

/-- A stick just beyond the deadzone on each side, at the deadzone, and at rest. -/
theorem witness_StickMagnitudeAndActivity :
    cfgValid t0 = true ∧ active t0 6501 = true ∧ 0 < (6501 : BitVec 16).toInt ∧
    active t0 (BitVec.ofInt 16 (-6501)) = true ∧ (BitVec.ofInt 16 (-6501)).toInt < 0 ∧
    active t0 6500 = false ∧ (0 : BitVec 16).toInt = 0 := by decide +kernel

theorem witness_SticksDriveTheirChannelPairs :
    (active t0 6501 = true ∧ 0 < (6501 : BitVec 16).toInt) ∧
    (active t0 (BitVec.ofInt 16 (-32768)) = true ∧ (BitVec.ofInt 16 (-32768)).toInt < 0) ∧
    active t0 (BitVec.ofInt 16 (-6500)) = false := by decide +kernel

/-- Both sticks active, on both sides of rest. -/
theorem witness_BoostChannelIsTheCommonChannel :
    cfgValid t0 = true ∧ active t0 6501 = true ∧ active t0 (BitVec.ofInt 16 (-32768)) = true := by decide +kernel

theorem witness_RawTargetsStayInRange : cfgValid t0 = true := t0_valid

theorem witness_FullSticksReachTheBoostMaximum :
    cfgValid t0 = true ∧ mag (32767 : BitVec 16) = 32767 ∧ mag (BitVec.ofInt 16 (-32768)) = 32767 ∧
    active t0 (rotating 6500).leftX = false ∧ active t0 (strafing 6500).rightX = false := by decide +kernel

/-- At the deadzone, just beyond it, and at the top. -/
theorem witness_ForwardMapIsMonotonic :
    cfgValid t0 = true ∧ (6500 : BitVec 16).toInt ≤ t0.deadzone ∧ t0.deadzone < (6501 : BitVec 16).toInt ∧
    (6500 : BitVec 16).toInt ≤ (6501 : BitVec 16).toInt ∧ (32767 : BitVec 16).toInt = 32767 := by decide +kernel

/-- For ProportionalStageCorrections, PidStageStepsEveryAxis and FailedGyroReadDisablesStabilization: each stabilizer
mode. -/
theorem witness_stabilizer_modes :
    armed.active.stabPid = false ∧ (armedOn (t0Mode 1)).active.stabPid = true := by decide +kernel

/-- `yaw_threshold_dps` is 2 and `yaw_gain` is 10 in T0: at the threshold; beyond it on each side; and `c = 0`, under a
gain of 0. -/
theorem witness_YawHoldRaisesTheOpposingPair :
    (active t0 (rotating 6501).leftX = true ∧ |(2 : ℚ)| ≤ t0.yawThresholdDps) ∧
    (active t0 (rotating 6500).leftX = false ∧ t0.yawThresholdDps < |(3 : ℚ)| ∧ t0.yawThresholdDps < |(-3 : ℚ)| ∧
      0 < max (-400) (min 400 (-(-3 : ℚ) * t0.yawGain)) ∧ max (-400) (min 400 (-(3 : ℚ) * t0.yawGain)) < 0) ∧
    active (t0.write 12 0) (rotating 6500).leftX = false ∧ (t0.write 12 0).yawThresholdDps < |(3 : ℚ)| ∧
    max (-400) (min 400 (-(3 : ℚ) * (t0.write 12 0).yawGain)) = 0 := by decide +kernel

theorem witness_PidWithoutGainsIsTheBaseline :
    let s : State := { armedOn (t0Mode 1) with latest := strafing 6501 }
    s.active.stabPid = true ∧ holdDetected s.active s.latest = false ∧ s.active.kiRoll = 0 ∧ s.active.kdRoll = 0 ∧
    s.active.kiYaw = 0 ∧ s.active.kdYaw = 0 := by decide +kernel

theorem witness_TargetsAreClampedSums : armed.ctl = .armed ∧ booted.ctl ≠ .armed := ⟨rfl, by decide⟩

/-- From below the range and from above it, with the target at each end. -/
theorem witness_ShaperNeverOvershoots :
    cfgValid t0 = true ∧ t0.pwmMin ≤ 1100 ∧ (1900 : ℚ) ≤ t0.pwmBoostMax ∧ (1000 : ℚ) ≤ 1100 ∧ (1900 : ℚ) ≤ 2000 := by
  decide +kernel

theorem witness_RateLimitBoundsTheMovement :
    cfgValid (t0Mode 8) = true ∧ (t0Mode 8).rateLimitEn = true ∧ (t0Mode 8).pwmMin ≤ 1100 ∧
    1100 ≤ (t0Mode 8).pwmBoostMax := by decide +kernel

theorem witness_SmoothingErrorShrinksGeometrically :
    cfgValid t0 = true ∧ t0.smoothAsym = false ∧ t0.rateLimitEn = false ∧ t0.pwmMin ≤ 1100 ∧ 1100 ≤ t0.pwmBoostMax ∧
    t0.pwmMin ≤ 1900 ∧ 1900 ≤ t0.pwmBoostMax := by decide +kernel

theorem booted_controlInv : ControlInv booted :=
  ⟨.inr t0_valid, fun _ => t0_valid, fun _ => rfl, fun _ => booted_quiet, by decide +kernel, by decide, by decide⟩

theorem booted_rangeInv : RangeInv booted := by
  refine ⟨fun i => ?_, fun a => ?_⟩
  · fin_cases i <;> decide +kernel
  · cases a <;> decide +kernel

/-- The identity keeps every range. -/
theorem exact_keeps (P : Bank) : RoundingKeeps .exact P := ⟨fun _ h1 h2 => ⟨h1, h2⟩, fun _ h1 h2 => ⟨h1, h2⟩⟩

/-- For EveryStepKeepsTheControlInvariant, EveryStepKeepsTheRangeInvariant and EmittedEventsHaveLegalDuty: a `DISABLE`
from the booted state. -/
theorem witness_invariants :
    let s := waiting booted .ctl [0x03000000]
    ControlInv s ∧ RangeInv s ∧ step s = .next (nextOf (step s)) ∧ RoundingKeeps s.rounding (nextOf (step s)).active :=
  ⟨⟨.inr t0_valid, fun _ => t0_valid, fun _ => rfl, 
      fun _ => ⟨rfl, rfl, rfl, rfl, booted_quiet.integ, booted_quiet.eprev⟩, by decide +kernel, by decide, by decide⟩,
    ⟨booted_rangeInv.cur, booted_rangeInv.integ⟩, step_answers_next _, exact_keeps _⟩

/-- A token that the decoder gives no value is bad. -/
theorem badToken_of_none {k : ℕ} {t : List Char} (h : tokenValue (trim t) = none) : badToken k t :=
  ⟨trim t, trimsTo_trim t, fun v hv => by rw [(tokenValue_iff _ v).mpr hv] at h; cases h⟩

/-- A token whose value the decoder does not admit is bad. -/
theorem badToken_of_range {k : ℕ} {t : List Char} {v : ℤ} (h : tokenValue (trim t) = some v)
    (hf : fieldAdmits k v = false) : badToken k t := by
  refine ⟨trim t, trimsTo_trim t, fun u hu hfit => ?_⟩
  rw [(tokenValue_iff _ u).mpr hu, Option.some.injEq] at h
  subst h
  rw [(fieldAdmits_iff k u).mpr hfit] at hf
  cases hf

/-- V-D12, V-D17, V-D14 and V-D16: an `x`; 2^31; a stick just out of range; a negative trigger. -/
theorem witness_BadTokenGivesTheNeutralFrame :
    (isSplit "1,2,3,x".toList (splitCommas "1,2,3,x".toList) ∧
      (splitCommas "1,2,3,x".toList)[3]? = some "x".toList ∧ badToken 3 "x".toList) ∧
    ((splitCommas "2147483648,0".toList)[0]? = some "2147483648".toList ∧ badToken 0 "2147483648".toList) ∧
    ((splitCommas "-32769".toList)[0]? = some "-32769".toList ∧ badToken 0 "-32769".toList) ∧
    (splitCommas "0,0,0,0,-1,0,0".toList)[4]? = some "-1".toList ∧ badToken 4 "-1".toList :=
  ⟨⟨isSplit_splitCommas _, by decide, badToken_of_none (by decide +kernel)⟩,
    ⟨by decide, badToken_of_none (by decide +kernel)⟩,
    ⟨by decide, badToken_of_range (v := -32769) (by decide +kernel) (by decide)⟩,
    by decide, badToken_of_range (v := -1) (by decide +kernel) (by decide)⟩

/-- Tokens whose values the decoder reads and admits are good. -/
theorem goodTokens_of_values {toks : List (List Char)} {vs : List ℤ}
    (h : toks.map (fun t => tokenValue (trim t)) = vs.map some)
    (hf : (vs.zipIdx.all fun x => fieldAdmits x.2 x.1) = true) : goodTokens toks vs := by
  refine ⟨by simpa using congrArg List.length h, fun k t v ht hv => ⟨⟨trim t, trimsTo_trim t, ?_⟩, ?_⟩⟩
  · have := congrArg (fun l => l[k]?) h
    simp only [List.getElem?_map, ht, hv, Option.map_some, Option.some.injEq] at this
    exact (tokenValue_iff _ v).mp this
  · rw [← fieldAdmits_iff]
    exact List.all_eq_true.mp hf (v, k) (List.mem_zipIdx_iff_getElem?.mpr hv)

/-- V-D11, V-D9 and V-D1: the extremes, more than seven tokens, the empty line. -/
theorem witness_GoodTokensFillTheFrame :
    isSplit "1,2,3,4,5,6,7,x".toList (splitCommas "1,2,3,4,5,6,7,x".toList) ∧
    goodTokens ((splitCommas "-32768,32767,0,0,65535,0,-1".toList).take 7) [-32768, 32767, 0, 0, 65535, 0, -1] ∧
    goodTokens ((splitCommas "1,2,3,4,5,6,7,x".toList).take 7) [1, 2, 3, 4, 5, 6, 7] ∧
    goodTokens ((splitCommas []).take 7) [0] :=
  ⟨isSplit_splitCommas _, goodTokens_of_values (by decide +kernel) (by decide),
    goodTokens_of_values (by decide +kernel) (by decide), goodTokens_of_values (by decide +kernel) (by decide)⟩

end Sys2Proof.Tests
end

/-! PROOFS. The step on a waiting command (spec R12, R58, R70). -/

namespace Sys2Proof.Machine

variable {s : State} {p : Port} {r : List Port}

/-- The state a fetch leaves, its turn and words written out. -/
theorem State.consume_nextTurn (hturns : s.turns = p :: r) (n : ℕ) :
    s.nextTurn.consume p n = { s.setStream p ((s.stream p).drop n) with turns := r } := by
  have htail : s.nextTurn = { s with turns := r } := by rw [State.nextTurn, hturns, List.tail_cons]
  rw [State.consume, State.stream_nextTurn, htail]
  cases p with
  | ctl => rfl
  | cfgp => rfl

/-- The fetch of a complete command at the front of the stream whose turn it is. -/
theorem fetch_of_command (hturns : s.turns = p :: r) {i : Instr} {n : ℕ}
    (hdecode : decode p (s.stream p) = .command i n) :
    fetch s = .command i (s.nextTurn.consume p n) := by
  simp only [fetch, hturns, hdecode]

/-- The step on a complete command at the front of the stream whose turn it is. -/
theorem step_of_command (hturns : s.turns = p :: r) {i : Instr} {n : ℕ}
    (hdecode : decode p (s.stream p) = .command i n) :
    step s = exec i (s.nextTurn.consume p n) := by
  simp only [step, fetch_of_command hturns hdecode]

end Sys2Proof.Machine

namespace Sys2Proof.Proofs

open Sys2Proof.Machine

/-- Settles O5: the step fetches the command and executes it, and the fetched state is the one the statement writes. -/
theorem stepRunsDecodedCommand : Obligations.StepRunsDecodedCommand := by
  intro s p r i n hturns hdecode
  calc step s = exec i (s.nextTurn.consume p n) := step_of_command hturns hdecode
    _ = exec i { s.setStream p ((s.stream p).drop n) with turns := r } := by
      rw [State.consume_nextTurn hturns]

end Sys2Proof.Proofs

/-! PROOFS. What a step can do, command by command (spec R12, R72, R81): the shape of every proof that a step keeps
something. -/

namespace Sys2Proof.Machine

variable {s t : State}

/-- What a command that runs in state `s` can leave behind: a constructor for each of the ways the six commands end. -/
inductive Effect (s : State) : State → Prop
  /-- a command out of its turn (R187) -/
  | refused : Effect s s.refuseSeq
  /-- a configuration command (R96 to R98) -/
  | configured (busy dirty : Bool) (B : Bank) : Effect s { s with cfgBusy := busy, cfgDirty := dirty, shadow := B }
  /-- an `INIT` that has no valid bank (R90) -/
  | noBank (stopped : s.en = false) (invalid : cfgValid s.snapshot.active = false) : Effect s s.snapshot.flagCfg
  /-- an accepted `INIT` (R90) -/
  | started (valid : cfgValid s.snapshot.active = true) : Effect s (startEngine s.snapshot)
  /-- an accepted `DISABLE` (R95) -/
  | disabled (running : s.en = true) : Effect s (shutdown causeDisable s)
  /-- an accepted `TICK` (R91) -/
  | ticked (running : s.en = true) (now : BitVec 64) (rx : Option Rx) (gyro : Option (Axes ℚ)) :
      Effect s (runTick now rx gyro s)

/-- Every command begins with the test whether it is in its turn (R187). -/
theorem effect_of_guard {outOfTurn : Prop} [Decidable outOfTurn] {r : Result}
    (h : (if outOfTurn then .next s.refuseSeq else r) = .next t) (accepted : ¬ outOfTurn → r = .next t → Effect s t) :
    Effect s t := by
  split at h
  · cases h
    exact .refused
  · next inTurn => exact accepted inTurn h

theorem exec_effect {i : Instr} (h : exec i s = .next t) : Effect s t := by
  cases i with
  | init =>
    refine effect_of_guard h fun hen hr => ?_
    cases hv : cfgValid s.snapshot.active with
    | true =>
      simp only [hv, if_true] at hr
      cases hr
      exact .started hv
    | false =>
      simp only [hv, Bool.false_eq_true, if_false] at hr
      cases hr
      exact .noBank (by simpa using hen) hv
  | tick now rx gyro =>
    refine effect_of_guard h fun hen hr => ?_
    cases hr
    exact .ticked (by simpa using hen) now rx _
  | disable =>
    refine effect_of_guard h fun hen hr => ?_
    cases hr
    exact .disabled (by simpa using hen)
  | cfgbegin =>
    refine effect_of_guard h fun _ hr => ?_
    cases hr
    exact .configured true s.cfgDirty s.shadow
  | cfgwr idx value =>
    refine effect_of_guard h fun _ hr => ?_
    cases hr
    exact .configured s.cfgBusy s.cfgDirty (s.shadow.write idx.toFin value)
  | cfgend =>
    refine effect_of_guard h fun _ hr => ?_
    cases hr
    exact .configured false true s.shadow

/-- The state in which the command of a step runs: `s` with other words waiting and other turns to come. -/
def State.withInputs (s : State) (ctlIn cfgIn : List Word) (turns : List Port) : State :=
  { s with ctlIn := ctlIn, cfgIn := cfgIn, turns := turns }

/-- A step moves the ports on, and then it does nothing more, refuses an illegal word, or has the effect of a command. -/
theorem step_next_cases (h : step s = .next t) :
    ∃ ctlIn cfgIn turns, let u := s.withInputs ctlIn cfgIn turns
      t = u ∨ t = u.refuseCmd ∨ Effect u t := by
  have consumed : ∀ p n, s.nextTurn.consume p n =
      s.withInputs (s.nextTurn.consume p n).ctlIn (s.nextTurn.consume p n).cfgIn s.turns.tail :=
    fun p n => s.nextTurn.consume_eq p n
  rcases step_cases s with ⟨_, hs⟩ | ⟨p, r, _, ⟨_, hs⟩ | ⟨_, n, _, hs⟩ | ⟨i, n, _, hs⟩⟩ <;> rw [hs] at h
  · cases h; exact ⟨s.ctlIn, s.cfgIn, s.turns, .inl rfl⟩
  · cases h; exact ⟨s.ctlIn, s.cfgIn, s.turns.tail, .inl rfl⟩
  · cases h; exact ⟨_, _, _, .inr (.inl (congrArg State.refuseCmd (consumed p n)))⟩
  · rw [consumed] at h; exact ⟨_, _, _, .inr (.inr (exec_effect h))⟩

/-! ## The snapshot -/

/-- After a snapshot the bank in force is the old one, or a valid one. -/
theorem State.snapshot_active_eq_or_valid (s : State) :
    s.snapshot.active = s.active ∨ cfgValid s.snapshot.active = true := by
  rcases s.snapshot_active with h | ⟨h, _, _, hvalid⟩
  · exact .inl h
  · exact .inr (h ▸ hvalid)

/-- A snapshot that leaves no valid bank has not changed the bank in force. -/
theorem State.snapshot_active_of_invalid (hinvalid : cfgValid s.snapshot.active = false) :
    s.snapshot.active = s.active := by
  rcases s.snapshot_active_eq_or_valid with h | h
  · exact h
  · rw [h] at hinvalid
    cases hinvalid

theorem stageSnap_rounding (s : State) : (stageSnap s).rounding = s.rounding := by
  rw [stageSnap_eq, s.snapshot_eq]

/-! ## Stage S1 -/

theorem countGyro_le (v : Bool) (s : State) : (countGyro v s).gyroBad ≤ Config.gyroBadMax := by
  cases v with
  | true => exact Nat.zero_le _
  | false => exact min_le_right _ _

theorem beforeSupervise_rounding (now : BitVec 64) (rx : Option Rx) (v : Bool) (s : State) :
    (beforeSupervise now rx v s).rounding = s.rounding := by
  rw [beforeSupervise_eq]

/-- S1 leaves the state in which it tests its conditions, or enters Failsafe from there by one of the two policies. -/
theorem stageLive_outcomes (now : BitVec 64) (rx : Option Rx) (v : Bool) (s : State) :
    let u := beforeSupervise now rx v s
    stageLive now rx v s = u ∨
      ∃ c, (c = causeLinkTimeout ∨ c = causeGyroFail) ∧
        (stageLive now rx v s = failsafeState c u ∨ stageLive now rx v s = shutdown (causeFatal + c) u) := by
  have entry : ∀ (u : State) c, enterFailsafe c u = failsafeState c u ∨ enterFailsafe c u = shutdown (causeFatal + c) u :=
    fun u c => (enterFailsafe_cases u c).imp And.right And.right
  rcases stageLive_cases s now rx v with ⟨_, h⟩ | ⟨_, _, _, h⟩ | ⟨_, _, h⟩ | ⟨_, _, _, h⟩
  · exact .inl h
  · exact .inl h
  · exact .inr ⟨_, .inl rfl, by rw [h]; exact entry _ _⟩
  · exact .inr ⟨_, .inr rfl, by rw [h]; exact entry _ _⟩

/-! ## The stages after S1 -/

/-- Unless Armed, S3 to S5 leave the state alone (R92). -/
theorem stageTargets_of_not_armed (gyro : Option (Axes ℚ)) (h : s.ctl ≠ .armed) :
    stageTargets gyro s = (s, safeTargets s.active) := if_neg h

/-- The hold update of S3 changes neither the bank nor the rounding. -/
theorem updateHold_frame (s : State) : (updateHold s).active = s.active ∧ (updateHold s).rounding = s.rounding := by
  unfold updateHold
  simp only
  split <;> exact ⟨rfl, rfl⟩

/-- S3 writes every integral anew: it zeroes them, or steps them in PID mode with a sample. -/
theorem stageStab_integ (gyro : Option (Axes ℚ)) (s : State) (a : Axis) :
    (stageStab gyro s).1.integ.get a = s.rounding.apply 0 ∨
      ∃ e i, (stageStab gyro s).1.integ.get a = pidIntegral s.rounding s.active e i := by
  obtain ⟨hactive, hround⟩ := updateHold_frame s
  unfold stageStab
  split
  · cases gyro with
    | none =>
      left
      simp only [stabPidHold, State.zeroStab_integ, Axes.get_const, hround]
    | some rate =>
      right
      exact ⟨rate.get a, (updateHold s).integ.get a, by
        simp only [stabPidHold, pidRegisters_integ, Axes.get_ofFn, hround, hactive]⟩
  · left
    cases gyro <;> exact Axes.get_const _ a

theorem stagesAfterLive_active (gyro : Option (Axes ℚ)) (s : State) : (stagesAfterLive gyro s).active = s.active := by
  rw [stagesAfterLive_eq]

end Sys2Proof.Machine

/-! PROOFS. What no step takes back: the events emitted and the three sticky flags (spec R41, R44), and the fields of the
status word (R41). -/

namespace Sys2Proof.Machine

variable {s t u : State}

/-! ## Growth -/

/-- From `s` to `t` events are only appended to the trace, and no sticky flag is cleared. -/
structure Grows (s t : State) : Prop where
  trace : s.trace <+: t.trace
  cfgErr : s.cfgErr = true → t.cfgErr = true
  cmdErr : s.cmdErr = true → t.cmdErr = true
  seqErr : s.seqErr = true → t.seqErr = true

/-- The three sticky flags (R41). -/
def stickyFlags (s : State) : Bool × Bool × Bool := (s.cfgErr, s.cmdErr, s.seqErr)

theorem Grows.of_append {es : List Event} (htrace : t.trace = s.trace ++ es) (hflags : stickyFlags t = stickyFlags s) :
    Grows s t := by
  simp only [stickyFlags, Prod.mk.injEq] at hflags
  obtain ⟨hcfg, hcmd, hseq⟩ := hflags
  exact ⟨htrace ▸ List.prefix_append _ _, hcfg.trans, hcmd.trans, hseq.trans⟩

theorem Grows.of_eq (htrace : t.trace = s.trace) (hflags : stickyFlags t = stickyFlags s) : Grows s t :=
  .of_append (es := []) (by rw [htrace, List.append_nil]) hflags

theorem Grows.trans (hst : Grows s t) (htu : Grows t u) : Grows s u where
  trace := hst.trace.trans htu.trace
  cfgErr := htu.cfgErr ∘ hst.cfgErr
  cmdErr := htu.cmdErr ∘ hst.cmdErr
  seqErr := htu.seqErr ∘ hst.seqErr

theorem grows_refuseCmd (s : State) : Grows s s.refuseCmd := ⟨List.prefix_rfl, id, fun _ => rfl, id⟩

theorem grows_refuseSeq (s : State) : Grows s s.refuseSeq := ⟨List.prefix_rfl, id, id, fun _ => rfl⟩

theorem grows_flagCfg (s : State) : Grows s s.flagCfg := ⟨List.prefix_rfl, fun _ => rfl, id, id⟩

theorem grows_snapshot (s : State) : Grows s s.snapshot := by
  rcases s.snapshot_cases with ⟨h, _⟩ | ⟨_, _, _, _, h⟩ | ⟨_, _, _, _, h⟩ <;> rw [h]
  · exact .of_eq rfl rfl
  · exact .of_eq rfl rfl
  · exact ⟨List.prefix_rfl, fun _ => rfl, id, id⟩

theorem grows_startEngine (s : State) : Grows s (startEngine s) :=
  .of_append (by rw [startEngine_eq]) rfl

theorem grows_shutdown (c : BitVec 4) (s : State) : Grows s (shutdown c s) :=
  .of_append (by rw [shutdown_eq]) rfl

theorem grows_stageSnap (s : State) : Grows s (stageSnap s) := by
  have hevent : Grows s.snapshot (stageSnap s) := by
    rw [stageSnap_eq]
    exact .of_append (by rw [show s.snapshot.trace = s.trace by rw [s.snapshot_eq]]) rfl
  exact (grows_snapshot s).trans hevent

theorem grows_beforeSupervise (now : BitVec 64) (rx : Option Rx) (v : Bool) (s : State) :
    Grows s (beforeSupervise now rx v s) := by
  rw [beforeSupervise_eq]
  exact .of_eq rfl rfl

theorem grows_stageLive (now : BitVec 64) (rx : Option Rx) (v : Bool) (s : State) :
    Grows s (stageLive now rx v s) := by
  have hbefore := grows_beforeSupervise now rx v s
  rcases stageLive_outcomes now rx v s with h | ⟨c, _, h | h⟩ <;> rw [h]
  · exact hbefore
  · exact hbefore.trans (.of_eq rfl rfl)
  · exact hbefore.trans (grows_shutdown _ _)

theorem grows_stagesAfterLive (gyro : Option (Axes ℚ)) (s : State) : Grows s (stagesAfterLive gyro s) := by
  rw [stagesAfterLive_eq]
  exact .of_append rfl rfl

theorem grows_runTick (now : BitVec 64) (rx : Option Rx) (gyro : Option (Axes ℚ)) (s : State) :
    Grows s (runTick now rx gyro s) := by
  have hlive := (grows_stageSnap s).trans (grows_stageLive now rx gyro.isSome _)
  rcases runTick_cases s now rx gyro with ⟨_, h⟩ | ⟨_, h⟩ <;> rw [h]
  · exact hlive.trans (grows_stagesAfterLive gyro _)
  · exact hlive

theorem Effect.grows (h : Effect s t) : Grows s t := by
  cases h with
  | refused => exact grows_refuseSeq s
  | configured busy dirty B => exact .of_eq rfl rfl
  | noBank _ _ => exact (grows_snapshot s).trans (grows_flagCfg _)
  | started _ => exact (grows_snapshot s).trans (grows_startEngine _)
  | disabled _ => exact grows_shutdown causeDisable s
  | ticked _ now rx gyro => exact grows_runTick now rx gyro s

theorem step_grows (h : step s = .next t) : Grows s t := by
  have hinputs : ∀ ctlIn cfgIn turns, Grows s (s.withInputs ctlIn cfgIn turns) := fun _ _ _ => .of_eq rfl rfl
  obtain ⟨ctlIn, cfgIn, turns, rfl | rfl | heffect⟩ := step_next_cases h
  · exact hinputs ctlIn cfgIn turns
  · exact (hinputs ctlIn cfgIn turns).trans (grows_refuseCmd _)
  · exact (hinputs ctlIn cfgIn turns).trans heffect.grows

/-! ## The status word -/

/-- Bits 11 to 2 of the status word: eight flags and two reserved bits. -/
theorem statusWord_flags (s : State) :
    (statusWord s).getLsbD 2 = s.en ∧ (statusWord s).getLsbD 3 = s.ledOn ∧ (statusWord s).getLsbD 4 = s.inHold ∧
    (statusWord s).getLsbD 5 = s.cfgBusy ∧ (statusWord s).getLsbD 6 = s.cfgDirty ∧ (statusWord s).getLsbD 7 = false ∧
    (statusWord s).getLsbD 8 = s.cfgErr ∧ (statusWord s).getLsbD 9 = s.cmdErr ∧ (statusWord s).getLsbD 10 = s.seqErr ∧
    (statusWord s).getLsbD 11 = false := by
  simp only [statusWord, BitVec.getLsbD_append]
  simp

theorem statusWord_ctl (s : State) : (statusWord s).extractLsb' 0 2 = s.ctl.code :=
  BitVec.extractLsb'_append_eq_right

theorem statusWord_cause (s : State) : (statusWord s).extractLsb' 12 4 = s.cause := by
  simp (disch := omega) only [statusWord, BitVec.extractLsb'_append_eq_of_le]
  exact BitVec.extractLsb'_append_eq_right

theorem statusWord_reserved (s : State) : (statusWord s).extractLsb' 16 16 = 0 := by
  simp (disch := omega) only [statusWord, BitVec.extractLsb'_append_eq_of_le]
  decide

end Sys2Proof.Machine

namespace Sys2Proof.Proofs

open Sys2Proof.Machine

/-- Settles O10: the word by its parts, and a step grows the flags. -/
theorem statusWordAndStickyFlags : Obligations.StatusWordAndStickyFlags := by
  refine ⟨fun s => ?_, ⟨rfl, rfl, rfl⟩, fun s t hstep => ?_⟩
  · obtain ⟨hen, hled, hhold, hbusy, hdirty, h7, hcfg, hcmd, hseq, h11⟩ := statusWord_flags s
    exact ⟨statusWord_ctl s, hen, hled, hhold, hbusy, hdirty, h7, hcfg, hcmd, hseq, h11, statusWord_cause s,
      statusWord_reserved s⟩
  · have hgrows := step_grows hstep
    exact ⟨hgrows.cfgErr, hgrows.cmdErr, hgrows.seqErr⟩

/-- Settles O11: the trace after a step begins with the trace before it. -/
theorem outputTraceIsAppendOnly : Obligations.OutputTraceIsAppendOnly := by
  intro s t hstep
  obtain ⟨es, happend⟩ := (step_grows hstep).trace
  exact ⟨es, happend.symm⟩

end Sys2Proof.Proofs

/-! PROOFS. The two invariants that every step keeps (spec R22, R24, R32, R57, R129, R165, R175, R186): first what each
shared operation and each stage of a tick establishes, then the tick, then the step. -/

namespace Sys2Proof.Safety

open Sys2Proof.Machine

variable {s t : State}

/-! ## What the invariants read of a state -/

/-- The fields that a session leaves its mark on, and the rounding. -/
abbrev Session := GamepadFrame × Bool × Bool × Bool × Axes ℚ × Axes ℚ × Rounding

/-- What `Quiet` reads of a state. -/
def sessionOf (s : State) : Session :=
  (s.latest, s.ledOn, s.prevBtn, s.inHold, s.integ, s.eprev, s.rounding)

/-- What `ControlInv` reads of a state. -/
def controlOf (s : State) : Session × Bank × Bool × Ctl × ℚ × ℕ × BitVec 4 :=
  (sessionOf s, s.active, s.en, s.ctl, s.cur6, s.gyroBad, s.cause)

/-- What `RangeInv` reads of a state. -/
def rangesOf (s : State) : Bank × Six ℚ × Axes ℚ := (s.active, s.cur, s.integ)

theorem Quiet.congr (h : Quiet s) (heq : sessionOf t = sessionOf s) : Quiet t := by
  simp only [sessionOf, Prod.mk.injEq] at heq
  obtain ⟨hlatest, hled, hprev, hhold, hinteg, heprev, hround⟩ := heq
  exact ⟨hlatest ▸ h.latest, hled ▸ h.ledOn, hprev ▸ h.prevBtn, hhold ▸ h.inHold,
    by rw [hinteg, hround]; exact h.integ, by rw [heprev, hround]; exact h.eprev⟩

theorem ControlInv.congr (h : ControlInv s) (heq : controlOf t = controlOf s) : ControlInv t := by
  simp only [controlOf, Prod.mk.injEq] at heq
  obtain ⟨hsession, hactive, hen, hctl, hcur6, hbad, hcause⟩ := heq
  have hled : t.ledOn = s.ledOn := congrArg (fun r => r.2.1) hsession
  exact {
    bank := by rw [hactive]; exact h.bank
    enabled := by rw [hen, hactive]; exact h.enabled
    stopped := by rw [hen, hctl]; exact h.stopped
    quiet := fun hc => (h.quiet (hctl ▸ hc)).congr hsession
    led := by rw [hcur6, hactive, hled]; exact h.led
    gyroBad := by rw [hbad]; exact h.gyroBad
    cause := by rw [hcause]; exact h.cause }

theorem RangeInv.congr (h : RangeInv s) (heq : rangesOf t = rangesOf s) : RangeInv t := by
  simp only [rangesOf, Prod.mk.injEq] at heq
  obtain ⟨hactive, hcur, hinteg⟩ := heq
  exact ⟨by rw [hactive, hcur]; exact h.cur, by rw [hactive, hinteg]; exact h.integ⟩

/-! ## The snapshot -/

/-- Of what `ControlInv` reads a snapshot writes the bank in force only. -/
theorem snapshot_controlOf (s : State) :
    controlOf s.snapshot = (sessionOf s, s.snapshot.active, s.en, s.ctl, s.cur6, s.gyroBad, s.cause) := by
  rw [s.snapshot_eq]
  rfl

/-! ## The safe state of INIT, DISABLE and Failsafe entry -/

theorem quiet_makeSafe (s : State) : Quiet s.makeSafe where
  latest := rfl
  ledOn := rfl
  prevBtn := rfl
  inHold := rfl
  integ := fun a => .inr (Axes.get_const _ a)
  eprev := fun a => .inr (Axes.get_const _ a)

theorem led_makeSafe (s : State) : s.makeSafe.cur6 = ledValue s.makeSafe.active s.makeSafe.ledOn := rfl

/-- A valid bank's own `pwm_min` is in its thruster range, so `RND` of it is too. -/
theorem RoundingKeeps.pwmMin_mem {r : Rounding} {P : Bank} (hr : RoundingKeeps r P) (hv : cfgValid P = true) :
    P.pwmMin ≤ r.apply P.pwmMin ∧ r.apply P.pwmMin ≤ P.pwmBoostMax :=
  hr.pulse _ le_rfl (cfgValid_min_le_boost hv)

/-- 0 is within the integral limit of a valid bank, so `RND` of it is too. -/
theorem RoundingKeeps.zero_mem {r : Rounding} {P : Bank} (hr : RoundingKeeps r P) (hv : cfgValid P = true) :
    -P.pidILimit ≤ r.apply 0 ∧ r.apply 0 ≤ P.pidILimit := by
  obtain ⟨_, hlimit, _⟩ := cfgValid_limits hv
  exact hr.integral 0 (neg_nonpos.mpr hlimit) hlimit

theorem rangeInv_makeSafe (hv : cfgValid s.active = true) (hr : RoundingKeeps s.rounding s.active) :
    RangeInv s.makeSafe where
  cur := fun i => by
    rw [State.makeSafe_cur, Six.get_const]
    exact hr.pwmMin_mem hv
  integ := fun a => by
    rw [State.makeSafe_integ, Axes.get_const]
    exact hr.zero_mem hv

theorem controlInv_shutdown {c : BitVec 4} (hv : cfgValid s.active = true) (hc : c ∈ legalCauses) :
    ControlInv (shutdown c s) where
  bank := .inr hv
  enabled := fun _ => hv
  stopped := fun _ => rfl
  quiet := fun _ => (quiet_makeSafe s).congr rfl
  led := led_makeSafe s
  gyroBad := Nat.zero_le _
  cause := hc

theorem rangeInv_shutdown {c : BitVec 4} (hv : cfgValid s.active = true) (hr : RoundingKeeps s.rounding s.active) :
    RangeInv (shutdown c s) :=
  (rangeInv_makeSafe hv hr).congr rfl

theorem controlInv_startEngine (hv : cfgValid s.active = true) : ControlInv (startEngine s) where
  bank := .inr hv
  enabled := fun _ => hv
  stopped := fun h => nomatch h
  quiet := fun _ => (quiet_makeSafe s).congr rfl
  led := led_makeSafe s
  gyroBad := Nat.zero_le _
  cause := List.mem_cons_self

theorem rangeInv_startEngine (hv : cfgValid s.active = true) (hr : RoundingKeeps s.rounding s.active) :
    RangeInv (startEngine s) :=
  (rangeInv_makeSafe hv hr).congr rfl

/-! ## A tick between its stages -/

/-- What holds of a running engine between the stages of a tick: the control invariant but for channel 6, which stage S2
brings in line with a bank that the snapshot has just taken. -/
structure RunningInv (s : State) : Prop where
  running : s.en = true
  valid : cfgValid s.active = true
  quiet : s.ctl ≠ .armed → Quiet s
  gyroBad : s.gyroBad ≤ Config.gyroBadMax
  cause : s.cause ∈ legalCauses

theorem RunningInv.controlInv (h : RunningInv s) (hled : s.cur6 = ledValue s.active s.ledOn) : ControlInv s where
  bank := .inr h.valid
  enabled := fun _ => h.valid
  stopped := fun hs => by rw [h.running] at hs; cases hs
  quiet := h.quiet
  led := hled
  gyroBad := h.gyroBad
  cause := h.cause

/-- S0 on a running engine: whether the bank changes or not, the one in force is valid. -/
theorem runningInv_stageSnap (h : ControlInv s) (hen : s.en = true) : RunningInv (stageSnap s) := by
  have hcontrol : controlOf (stageSnap s) = controlOf s.snapshot := by
    rw [stageSnap_eq]
    rfl
  rw [snapshot_controlOf] at hcontrol
  simp only [controlOf, Prod.mk.injEq] at hcontrol
  obtain ⟨hsession, hactive, hrun, hctl, _, hbad, hcause⟩ := hcontrol
  have hvalid : cfgValid s.snapshot.active = true := by
    rcases s.snapshot_active_eq_or_valid with hold | hnew
    · rw [hold]
      exact h.enabled hen
    · exact hnew
  exact {
    running := by rw [hrun, hen]
    valid := by rw [hactive]; exact hvalid
    quiet := fun hc => (h.quiet (hctl ▸ hc)).congr hsession
    gyroBad := by rw [hbad]; exact h.gyroBad
    cause := by rw [hcause]; exact h.cause }

/-- The first parts of S1: an accepted frame arms the block, so that a block that is not Armed has received nothing. -/
theorem RunningInv.beforeSupervise (h : RunningInv s) (now : BitVec 64) (rx : Option Rx) (v : Bool) :
    RunningInv (beforeSupervise now rx v s) := by
  rcases receive_cases s now rx with ⟨r, _, _, hr⟩ | ⟨_, hr⟩ <;> rw [Machine.beforeSupervise, hr]
  · exact {
      running := h.running
      valid := h.valid
      quiet := fun hc => absurd rfl hc
      gyroBad := countGyro_le v _
      cause := h.cause }
  · exact {
      running := h.running
      valid := h.valid
      quiet := fun hc => (h.quiet hc).congr rfl
      gyroBad := countGyro_le v _
      cause := h.cause }

theorem RunningInv.failsafeState {c : BitVec 4} (h : RunningInv s) (hc : c ∈ legalCauses) :
    RunningInv (failsafeState c s) where
  running := h.running
  valid := h.valid
  quiet := fun _ => (quiet_makeSafe s).congr rfl
  gyroBad := h.gyroBad
  cause := hc

/-- The causes of Failsafe entry are legal, and so are those of a fatal stop (R127, R186). -/
theorem failsafeCause_legal {c : BitVec 4} (hc : c = causeLinkTimeout ∨ c = causeGyroFail) :
    c ∈ legalCauses ∧ causeFatal + c ∈ legalCauses := by
  rcases hc with rfl | rfl <;> decide

/-- How a tick ends: with the stages after S1, or with a shutdown, from a state of a running engine with a valid bank. -/
theorem runTick_outcomes (h : ControlInv s) (hen : s.en = true) (now : BitVec 64) (rx : Option Rx)
    (gyro : Option (Axes ℚ)) :
    ∃ u, RunningInv u ∧ u.rounding = s.rounding ∧
      (runTick now rx gyro s = stagesAfterLive gyro u ∨
        ∃ c ∈ legalCauses, runTick now rx gyro s = shutdown c u) := by
  let u := beforeSupervise now rx gyro.isSome (stageSnap s)
  have hu : RunningInv u := (runningInv_stageSnap h hen).beforeSupervise now rx gyro.isSome
  have hround : u.rounding = s.rounding := by rw [beforeSupervise_rounding, stageSnap_rounding]
  rcases stageLive_outcomes now rx gyro.isSome (stageSnap s) with hlive | ⟨c, hc, hlive | hlive⟩
  · exact ⟨u, hu, hround, .inl (by simp only [runTick, hlive]; exact if_pos hu.running)⟩
  · have hf := hu.failsafeState (failsafeCause_legal hc).1
    exact ⟨Machine.failsafeState c u, hf, hround, .inl (by simp only [runTick, hlive]; exact if_pos hf.running)⟩
  · exact ⟨u, hu, hround, .inr ⟨_, (failsafeCause_legal hc).2, by
      simp only [runTick, hlive]; exact if_neg Bool.false_ne_true⟩⟩

/-! ## The stages after S1 -/

/-- S2 on a block without a session: no button, no edge, the LED stays off. -/
theorem Quiet.stageLed (h : Quiet s) : Quiet (stageLed s) := by
  have hbutton : ledButton s.active s.latest = false := by
    rw [h.latest]
    exact neutral_button _
  exact {
    latest := h.latest
    ledOn := by rw [stageLed_ledOn, hbutton, h.ledOn]; rfl
    prevBtn := by rw [stageLed_prevBtn, hbutton]
    inHold := h.inHold
    integ := h.integ
    eprev := h.eprev }

theorem RunningInv.stageLed (h : RunningInv s) : RunningInv (stageLed s) where
  running := h.running
  valid := h.valid
  quiet := fun hc => (h.quiet hc).stageLed
  gyroBad := h.gyroBad
  cause := h.cause

/-- S3 to S5 keep what holds between the stages: on the Armed path they write only what an Armed block may hold. -/
theorem RunningInv.stageTargets (h : RunningInv s) (gyro : Option (Axes ℚ)) : RunningInv (stageTargets gyro s).1 := by
  by_cases harmed : s.ctl = .armed
  · rw [stageTargets_eq]
    exact {
      running := h.running
      valid := h.valid
      quiet := fun hc => absurd harmed hc
      gyroBad := h.gyroBad
      cause := h.cause }
  · rw [stageTargets_of_not_armed gyro harmed]
    exact h

theorem controlInv_stagesAfterLive (h : RunningInv s) (gyro : Option (Axes ℚ)) :
    ControlInv (stagesAfterLive gyro s) := by
  have hled : (stageLed s).cur6 = ledValue (stageLed s).active (stageLed s).ledOn := rfl
  have htargets : (stageTargets gyro (stageLed s)).1.cur6 =
      ledValue (stageTargets gyro (stageLed s)).1.active (stageTargets gyro (stageLed s)).1.ledOn := by
    rw [stageTargets_eq]
    exact hled
  exact ((h.stageLed.stageTargets gyro).controlInv htargets).congr rfl

/-- S6 gives every channel a value in the thruster range (R175). -/
theorem shapeChannel_mem {r : Rounding} {P : Bank} (hv : cfgValid P = true) (hr : RoundingKeeps r P) (i : Fin 6)
    (cur tgt : ℚ) : P.pwmMin ≤ shapeChannel r P i cur tgt ∧ shapeChannel r P i cur tgt ≤ P.pwmBoostMax := by
  obtain ⟨hlo, hhi⟩ := clamp_mem (cfgValid_min_le_boost hv)
  exact hr.pulse _ hlo hhi

/-- A PID step gives every integral a value within its limit (R165 (4)). -/
theorem pidIntegral_mem {r : Rounding} {P : Bank} (hv : cfgValid P = true) (hr : RoundingKeeps r P) (e i : ℚ) :
    -P.pidILimit ≤ pidIntegral r P e i ∧ pidIntegral r P e i ≤ P.pidILimit := by
  obtain ⟨_, hlimit, _⟩ := cfgValid_limits hv
  obtain ⟨hlo, hhi⟩ := clamp_mem (neg_le_self hlimit)
  exact hr.integral _ hlo hhi

/-- After S3 to S5 every integral is within its limit: the stabilizer wrote it, or nothing of a session is left. -/
theorem stageTargets_integ_mem (h : RunningInv s) (hr : RoundingKeeps s.rounding s.active) (gyro : Option (Axes ℚ))
    (a : Axis) : -s.active.pidILimit ≤ (stageTargets gyro s).1.integ.get a ∧
      (stageTargets gyro s).1.integ.get a ≤ s.active.pidILimit := by
  by_cases harmed : s.ctl = .armed
  · rw [show (stageTargets gyro s).1 = (stageStab gyro s).1 by rw [stageTargets, if_pos harmed]]
    rcases stageStab_integ gyro s a with hz | ⟨e, i, hp⟩
    · rw [hz]
      exact hr.zero_mem h.valid
    · rw [hp]
      exact pidIntegral_mem h.valid hr e i
  · rw [stageTargets_of_not_armed gyro harmed]
    obtain ⟨_, hlimit, _⟩ := cfgValid_limits h.valid
    rcases (h.quiet harmed).integ a with hz | hz <;> rw [hz]
    · exact ⟨neg_nonpos.mpr hlimit, hlimit⟩
    · exact hr.zero_mem h.valid

theorem rangeInv_stagesAfterLive (h : RunningInv s) (hr : RoundingKeeps s.rounding s.active)
    (gyro : Option (Axes ℚ)) : RangeInv (stagesAfterLive gyro s) := by
  rw [stagesAfterLive_eq]
  refine ⟨fun i => ?_, fun a => ?_⟩
  · simp only [stageShape_cur, Six.get_ofFn]
    rw [stageTargets_eq]
    exact shapeChannel_mem h.valid hr i _ _
  · exact stageTargets_integ_mem h.stageLed hr gyro a

/-! ## The commands and the step -/

theorem controlInv_runTick (h : ControlInv s) (hen : s.en = true) (now : BitVec 64) (rx : Option Rx)
    (gyro : Option (Axes ℚ)) : ControlInv (runTick now rx gyro s) := by
  obtain ⟨u, hu, _, hend | ⟨c, hc, hend⟩⟩ := runTick_outcomes h hen now rx gyro <;> rw [hend]
  · exact controlInv_stagesAfterLive hu gyro
  · exact controlInv_shutdown hu.valid hc

/-- A tick brings every thruster and integral into its range, whatever the snapshot made of the ranges. -/
theorem rangeInv_runTick (h : ControlInv s) (hen : s.en = true) (now : BitVec 64) (rx : Option Rx)
    (gyro : Option (Axes ℚ)) (hr : RoundingKeeps s.rounding (runTick now rx gyro s).active) :
    RangeInv (runTick now rx gyro s) := by
  obtain ⟨u, hu, hround, hend | ⟨c, hc, hend⟩⟩ := runTick_outcomes h hen now rx gyro <;>
    rw [hend, ← hround] at hr <;> rw [hend]
  · rw [stagesAfterLive_active] at hr
    exact rangeInv_stagesAfterLive hu hr gyro
  · exact rangeInv_shutdown hu.valid hr

/-- An `INIT` without a valid bank has left everything that the invariants read as it was. -/
theorem flagCfg_snapshot_of_invalid (hinvalid : cfgValid s.snapshot.active = false) :
    controlOf s.snapshot.flagCfg = controlOf s ∧ rangesOf s.snapshot.flagCfg = rangesOf s := by
  have hactive := State.snapshot_active_of_invalid hinvalid
  constructor
  · calc controlOf s.snapshot.flagCfg = controlOf s.snapshot := rfl
      _ = controlOf s := by rw [snapshot_controlOf, hactive]; rfl
  · rw [s.snapshot_eq, hactive]
    rfl

theorem controlInv_of_effect (h : Effect s t) (hs : ControlInv s) : ControlInv t := by
  cases h with
  | refused => exact hs.congr rfl
  | configured busy dirty B => exact hs.congr rfl
  | noBank _ invalid => exact hs.congr (flagCfg_snapshot_of_invalid invalid).1
  | started valid => exact controlInv_startEngine valid
  | disabled running => exact controlInv_shutdown (hs.enabled running) (by decide)
  | ticked running now rx gyro => exact controlInv_runTick hs running now rx gyro

theorem rangeInv_of_effect (h : Effect s t) (hc : ControlInv s) (hs : RangeInv s)
    (hr : RoundingKeeps s.rounding t.active) : RangeInv t := by
  cases h with
  | refused => exact hs.congr rfl
  | configured busy dirty B => exact hs.congr rfl
  | noBank _ invalid => exact hs.congr (flagCfg_snapshot_of_invalid invalid).2
  | started valid =>
    have hround : s.snapshot.rounding = s.rounding := by rw [s.snapshot_eq]
    exact rangeInv_startEngine valid (hround ▸ hr)
  | disabled running => exact rangeInv_shutdown (hc.enabled running) hr
  | ticked running now rx gyro => exact rangeInv_runTick hc running now rx gyro hr

end Sys2Proof.Safety

namespace Sys2Proof.Proofs

open Sys2Proof.Machine Sys2Proof.Safety

/-- Settles O57: waiting words and turns are not read by the invariant, and every effect of a command keeps it. -/
theorem everyStepKeepsTheControlInvariant : Obligations.EveryStepKeepsTheControlInvariant := by
  intro s t hs hstep
  obtain ⟨ctlIn, cfgIn, turns, rfl | rfl | heffect⟩ := step_next_cases hstep
  · exact hs.congr rfl
  · exact hs.congr rfl
  · exact controlInv_of_effect heffect (hs.congr rfl)

/-- Settles O58, by the same cases. -/
theorem everyStepKeepsTheRangeInvariant : Obligations.EveryStepKeepsTheRangeInvariant := by
  intro s t hcontrol hs hstep hround
  obtain ⟨ctlIn, cfgIn, turns, rfl | rfl | heffect⟩ := step_next_cases hstep
  · exact hs.congr rfl
  · exact hs.congr rfl
  · exact rangeInv_of_effect heffect (hcontrol.congr rfl) (hs.congr rfl) hround

end Sys2Proof.Proofs

/-! PROOFS. The configuration word map and the eight conditions of a valid bank, in numbers (spec R36, R37, R40). -/

namespace Sys2Proof.Machine

/-! ## Words in numbers -/

theorem million_eq : Config.million = 10 ^ 6 := by norm_num [Config.million]

/-- An F6 word counts millionths (R77). -/
theorem f6_eq_millionths (w : Word) : f6 w = (w.toInt : ℚ) / 10 ^ 6 := by
  rw [f6, million_eq]

/-- Every F6 word of the all-zero bank is 0. -/
theorem f6_read_zero (i : Fin 32) : f6 (Bank.zero.read i) = 0 := by
  rw [Bank.read_zero]
  simp [f6]

/-- A bit of a word, in numbers. -/
theorem getLsbD_eq_div_mod (w : Word) (k : ℕ) : w.getLsbD k = decide (w.toNat / 2 ^ k % 2 = 1) := by
  rw [← BitVec.testBit_toNat, Nat.testBit_eq_decide_div_mod_eq]

/-- A field of a word, in numbers. -/
theorem toNat_extractLsb'_eq_div_mod (w : Word) (start len : ℕ) :
    (w.extractLsb' start len).toNat = w.toNat / 2 ^ start % 2 ^ len := by
  rw [BitVec.extractLsb'_toNat, Nat.shiftRight_eq_div_pow]

/-! ## The conditions that are not already a comparison of decoded values -/

/-- V1: bits 7 to 6 and 31 to 12 of `MODE` are 0; above bit 31 there is nothing. -/
theorem Bank.v1_iff (B : Bank) :
    B.v1 = true ↔ (B.read 0).toNat / 2 ^ 6 % 4 = 0 ∧ (B.read 0).toNat / 2 ^ 12 = 0 := by
  have hsize : (B.read 0).toNat < 2 ^ 32 := (B.read 0).isLt
  rw [Bank.v1, Bank.mode, Bool.and_eq_true, beq_iff_eq, beq_iff_eq, ← BitVec.toNat_inj, ← BitVec.toNat_inj,
    toNat_extractLsb'_eq_div_mod, toNat_extractLsb'_eq_div_mod]
  change (B.read 0).toNat / 2 ^ 6 % 2 ^ 2 = 0 ∧ (B.read 0).toNat / 2 ^ 12 % 2 ^ 20 = 0 ↔ _
  omega

theorem Bank.v2_iff (B : Bank) : B.v2 = true ↔ 0 ≤ B.deadzone ∧ B.deadzone < 32767 := decide_eq_true_iff

theorem Bank.v6_iff (B : Bank) : B.v6 = true ↔
    ∀ f ∈ [B.smoothingFactorHorizontal, B.smoothingFactorVertical, B.smoothingFactorDecelHorizontal,
      B.smoothingFactorDecelVertical], 0 ≤ f ∧ f ≤ 1 := by
  simp only [Bank.v6, isFactor, Bool.and_eq_true, decide_eq_true_eq, and_assoc, List.forall_mem_cons, List.not_mem_nil,
    false_imp_iff, implies_true, and_true]

end Sys2Proof.Machine

namespace Sys2Proof.Proofs

open Sys2Proof.Machine Sys2Proof.Safety

/-- Settles O18: each decoded value by its word's format, each `MODE` field by its bits, each condition by its `v_iff`. -/
theorem validityIsTheEightConditions : Obligations.ValidityIsTheEightConditions := by
  refine ⟨fun B => ?_, fun B => ?_⟩
  · intro word millionths modeBit
    have hf6 : ∀ i, f6 (B.read i) = millionths i := fun i => f6_eq_millionths (B.read i)
    have hbit : ∀ k, B.mode.getLsbD k = modeBit k := getLsbD_eq_div_mod (B.read 0)
    exact ⟨⟨rfl, rfl, rfl, rfl⟩, ⟨hf6 2, hf6 3, hf6 4, hf6 5, hf6 6⟩, ⟨hf6 7, hf6 8, hf6 19, hf6 20⟩,
      ⟨hf6 9, hf6 10, hf6 11, hf6 12, hf6 13, hf6 14, hf6 16, hf6 17⟩,
      ⟨hf6 21, hf6 22, hf6 23, hf6 24, hf6 25, hf6 26, hf6 27, hf6 28⟩,
      ⟨rfl, rfl, rfl, rfl, rfl, rfl, rfl, rfl, rfl⟩,
      ⟨hbit 0, hbit 1, hbit 2, hbit 3, hbit 4, hbit 5, toNat_extractLsb'_eq_div_mod (B.read 0) 8 4⟩⟩
  · rw [← B.v1_iff, ← B.v2_iff, ← B.v6_iff, ← million_eq]
    simp only [cfgValid, Bank.v3, Bank.v4, Bank.v5, Bank.v7, Bank.v8, Bool.and_eq_true, decide_eq_true_eq, and_assoc]

end Sys2Proof.Proofs

/-! PROOFS. The invariants at reset (spec R45). -/

namespace Sys2Proof.Safety

open Sys2Proof.Machine

theorem quiet_reset : Quiet State.reset where
  latest := rfl
  ledOn := rfl
  prevBtn := rfl
  inHold := rfl
  integ := fun a => .inl (Axes.get_const 0 a)
  eprev := fun a => .inl (Axes.get_const 0 a)

theorem controlInv_reset : ControlInv State.reset where
  bank := .inl rfl
  enabled := fun h => nomatch h
  stopped := fun _ => rfl
  quiet := fun _ => quiet_reset
  led := (f6_read_zero 17).symm
  gyroBad := Nat.zero_le _
  cause := List.mem_cons_self

/-- At reset both ranges have one point, 0, and the registers are there. -/
theorem rangeInv_reset : RangeInv State.reset where
  cur := fun i => by
    have hcur : State.reset.cur.get i = 0 := Six.get_const 0 i
    have hmin : State.reset.active.pwmMin = 0 := f6_read_zero 2
    have hmax : State.reset.active.pwmBoostMax = 0 := f6_read_zero 5
    rw [hcur, hmin, hmax]
    exact ⟨le_rfl, le_rfl⟩
  integ := fun a => by
    have hinteg : State.reset.integ.get a = 0 := Axes.get_const 0 a
    have hlimit : State.reset.active.pidILimit = 0 := f6_read_zero 28
    rw [hinteg, hlimit, neg_zero]
    exact ⟨le_rfl, le_rfl⟩

end Sys2Proof.Safety

namespace Sys2Proof.Proofs

open Sys2Proof.Safety

/-- Settles O9. -/
theorem resetSatisfiesTheInvariants : Obligations.ResetSatisfiesTheInvariants :=
  ⟨controlInv_reset, rangeInv_reset⟩

end Sys2Proof.Proofs

/-! PROOFS. The commands in their turn, each said once (spec R90, R91, R96 to R98). -/

namespace Sys2Proof.Machine

variable {s : State}

theorem exec_tick_of_running (hen : s.en = true) (now : BitVec 64) (rx : Option Rx) (gyro : Option GyroWords) :
    exec (.tick now rx gyro) s = .next (runTick now rx (gyro.map gyroRates) s) :=
  if_neg (by simp [hen])

theorem exec_tick_of_stopped (hen : s.en = false) (now : BitVec 64) (rx : Option Rx) (gyro : Option GyroWords) :
    exec (.tick now rx gyro) s = .next s.refuseSeq := if_pos hen

theorem exec_init_of_stopped (hen : s.en = false) :
    exec .init s =
      if cfgValid s.snapshot.active = true then .next (startEngine s.snapshot) else .next s.snapshot.flagCfg :=
  if_neg (by simp [hen])

theorem exec_cfgbegin_of_closed (hbusy : s.cfgBusy = false) : exec .cfgbegin s = .next { s with cfgBusy := true } :=
  if_neg (by simp [hbusy])

theorem exec_cfgwr_of_open (hbusy : s.cfgBusy = true) (idx : BitVec 5) (value : Word) :
    exec (.cfgwr idx value) s = .next (s.writeShadow idx value) := if_neg (by simp [hbusy])

theorem exec_cfgend_of_open (hbusy : s.cfgBusy = true) :
    exec .cfgend s = .next { s with cfgBusy := false, cfgDirty := true } := if_neg (by simp [hbusy])

end Sys2Proof.Machine

/-! PROOFS. What a step does to the command ports (spec R28, R58, R70). -/

namespace Sys2Proof.Machine

variable {s t : State} {p : Port} {r : List Port}

/-- The model's account of the two ports: the turns to come and the words waiting. -/
def inputsOf (s : State) : List Port × List Word × List Word := (s.turns, s.ctlIn, s.cfgIn)

theorem inputsOf_snapshot (s : State) : inputsOf s.snapshot = inputsOf s := by
  rw [s.snapshot_eq]
  rfl

theorem inputsOf_startEngine (s : State) : inputsOf (startEngine s) = inputsOf s := by
  rw [startEngine_eq]
  rfl

theorem inputsOf_shutdown (c : BitVec 4) (s : State) : inputsOf (shutdown c s) = inputsOf s := by
  rw [shutdown_eq]
  rfl

theorem inputsOf_runTick (now : BitVec 64) (rx : Option Rx) (gyro : Option (Axes ℚ)) (s : State) :
    inputsOf (runTick now rx gyro s) = inputsOf s := by
  rw [runTick_eq]
  rfl

/-- No command takes a word or a turn: the fetch before it has done so. -/
theorem Effect.inputsOf_eq (h : Effect s t) : inputsOf t = inputsOf s := by
  cases h with
  | refused => rfl
  | configured busy dirty B => rfl
  | noBank _ _ => exact inputsOf_snapshot s
  | started _ => exact (inputsOf_startEngine _).trans (inputsOf_snapshot s)
  | disabled _ => exact inputsOf_shutdown _ s
  | ticked _ now rx gyro => exact inputsOf_runTick now rx gyro s

/-- A step uses up its turn and a number of words at the front of the port whose turn it was, and no other input. -/
theorem step_inputsOf (hturns : s.turns = p :: r) (h : step s = .next t) :
    ∃ n, inputsOf t = inputsOf { s.setStream p ((s.stream p).drop n) with turns := r } := by
  have hdrop := fun n => congrArg inputsOf (State.consume_nextTurn hturns n)
  rcases step_cases s with ⟨hidle, _⟩ | ⟨q, _, hq, hport⟩
  · cases hturns.symm.trans hidle
  · cases hturns.symm.trans hq
    rcases hport with ⟨_, hs⟩ | ⟨_, n, _, hs⟩ | ⟨i, n, _, hs⟩ <;> rw [hs] at h
    · cases h
      refine ⟨0, .trans ?_ (hdrop 0)⟩
      cases p <;> rfl
    · cases h
      exact ⟨n, hdrop n⟩
    · exact ⟨n, (exec_effect h).inputsOf_eq.trans (hdrop n)⟩

end Sys2Proof.Machine

namespace Sys2Proof.Proofs

open Sys2Proof.Machine

/-- Settles O6: a step without a turn is idle, and a step with one changes the inputs as `step_inputsOf` says. -/
theorem eachPortKeepsItsOwnOrder : Obligations.EachPortKeepsItsOwnOrder := by
  refine ⟨fun s hturns => ?_, fun s t r hturns h => ?_, fun s t r hturns h => ?_⟩
  · rcases step_cases s with ⟨_, hidle⟩ | ⟨p, r, hq, _⟩
    · exact hidle
    · cases hturns.symm.trans hq
  · obtain ⟨n, hinputs⟩ := step_inputsOf hturns h
    obtain ⟨ht, hports⟩ := Prod.mk.inj hinputs
    obtain ⟨hctl, hcfg⟩ := Prod.mk.inj hports
    exact ⟨ht, hcfg, n, hctl⟩
  · obtain ⟨n, hinputs⟩ := step_inputsOf hturns h
    obtain ⟨ht, hports⟩ := Prod.mk.inj hinputs
    obtain ⟨hctl, hcfg⟩ := Prod.mk.inj hports
    exact ⟨ht, hctl, n, hcfg⟩

end Sys2Proof.Proofs

/-! PROOFS. The writer's protocol: a list of commands run one after the other (spec R56, R84). -/

namespace Sys2Proof.Safety

open Sys2Proof.Machine

variable {s t : State}

theorem runCommands_cons {i : Instr} (h : exec i s = .next t) (rest : List Instr) :
    runCommands (i :: rest) s = runCommands rest t := by
  rw [runCommands, h]

/-- Inside a bracket the writes go to the shadow bank one after the other, and the commands behind them go on from
there. -/
theorem runCommands_writes (ws : List (BitVec 5 × Word)) (rest : List Instr) (hbusy : s.cfgBusy = true) :
    runCommands ((ws.map fun w => .cfgwr w.1 w.2) ++ rest) s =
      runCommands rest { s with shadow := ws.foldl (fun B w => B.write w.1.toFin w.2) s.shadow } := by
  induction ws generalizing s with
  | nil => rfl
  | cons w ws ih =>
    have hbusy' : (s.writeShadow w.1 w.2).cfgBusy = true := hbusy
    rw [List.map_cons, List.cons_append, runCommands_cons (exec_cfgwr_of_open hbusy w.1 w.2), ih hbusy']
    rfl

end Sys2Proof.Safety

namespace Sys2Proof.Proofs

open Sys2Proof.Machine Sys2Proof.Safety

/-- Settles O16: the bracket is opened, the writes are made inside it, and `CFGEND` closes and offers the bank. -/
theorem cfgloadPublishesItsWrites : Obligations.CfgloadPublishesItsWrites := by
  intro s ws hclosed
  rw [cfgload, List.cons_append, runCommands_cons (exec_cfgbegin_of_closed hclosed), runCommands_writes _ _ rfl,
    runCommands_cons (exec_cfgend_of_open rfl), runCommands, ← hclosed]

end Sys2Proof.Proofs

/-! PROOFS. Who takes a bank (spec R55, R57, R59): the active bank changes by the snapshot of a running `TICK` or of an
`INIT` only. -/

namespace Sys2Proof.Machine

variable {s t : State}

theorem State.snapshot_of_nothing (hnothing : s.cfgBusy = true ∨ s.cfgDirty = false) :
    s.snapshot = s ∧ s.snapshotTakes = false := by
  refine ⟨if_pos hnothing, ?_⟩
  rcases hnothing with hbusy | hclean
  · simp [State.snapshotTakes, hbusy]
  · simp [State.snapshotTakes, hclean]

theorem State.snapshot_of_valid (hclosed : s.cfgBusy = false) (hdirty : s.cfgDirty = true)
    (hvalid : cfgValid s.shadow = true) :
    s.snapshot = { s with cfgDirty := false, active := s.shadow } ∧ s.snapshotTakes = true := by
  simp [State.snapshot, State.snapshotTakes, State.takeShadow, hclosed, hdirty, hvalid]

theorem State.snapshot_of_invalid (hclosed : s.cfgBusy = false) (hdirty : s.cfgDirty = true)
    (hinvalid : cfgValid s.shadow = false) :
    s.snapshot = { s with cfgDirty := false, cfgErr := true } ∧ s.snapshotTakes = false := by
  simp [State.snapshot, State.snapshotTakes, State.flagCfg, hclosed, hdirty, hinvalid]

theorem runTick_banks (now : BitVec 64) (rx : Option Rx) (gyro : Option (Axes ℚ)) (s : State) :
    let t := runTick now rx gyro s
    t.active = s.snapshot.active ∧ t.cfgDirty = s.snapshot.cfgDirty ∧ t.cfgErr = s.snapshot.cfgErr := by
  rw [runTick_eq]
  exact ⟨rfl, rfl, rfl⟩

theorem startEngine_banks (s : State) :
    (startEngine s).active = s.active ∧ (startEngine s).cfgDirty = s.cfgDirty ∧ (startEngine s).cfgErr = s.cfgErr := by
  rw [startEngine_eq]
  exact ⟨rfl, rfl, rfl⟩

theorem Effect.active_eq (h : Effect s t) : t.active = s.active ∨ t.active = s.snapshot.active := by
  cases h with
  | refused => exact .inl rfl
  | configured busy dirty B => exact .inl rfl
  | noBank _ _ => exact .inr rfl
  | started _ => exact .inr (startEngine_banks _).1
  | disabled _ => exact .inl (by rw [shutdown_eq])
  | ticked _ now rx gyro => exact .inr (runTick_banks now rx gyro s).1

/-- A step keeps the active bank, or takes the shadow bank, which is then valid, published and not being written. -/
theorem step_active (h : step s = .next t) :
    t.active = s.active ∨
    (t.active = s.shadow ∧ s.cfgBusy = false ∧ s.cfgDirty = true ∧ cfgValid s.shadow = true) := by
  obtain ⟨ctlIn, cfgIn, turns, rfl | rfl | heffect⟩ := step_next_cases h
  · exact .inl rfl
  · exact .inl rfl
  · rcases heffect.active_eq with hkept | htaken
    · exact .inl hkept
    · rw [htaken]
      exact State.snapshot_active _

end Sys2Proof.Machine

namespace Sys2Proof.Proofs

open Sys2Proof.Machine

/-- Settles O15: the three cases of `snapshot()`, and the two commands that perform it. -/
theorem snapshotTakesAWholeValidBank : Obligations.SnapshotTakesAWholeValidBank := by
  intro s
  refine ⟨State.snapshot_of_nothing, State.snapshot_of_valid, State.snapshot_of_invalid, fun hen now rx gyro => ?_,
    fun hen => ?_⟩
  · exact ⟨_, exec_tick_of_running hen now rx gyro, runTick_banks now rx _ s⟩
  · rw [exec_init_of_stopped hen]
    split
    · obtain ⟨hactive, hdirty, herr⟩ := startEngine_banks s.snapshot
      exact ⟨_, rfl, hactive, hdirty, herr.trans⟩
    · exact ⟨_, rfl, rfl, rfl, fun _ => rfl⟩

/-- Settles O19, by induction on the number of steps: the first step keeps the active bank or takes a published one,
and the rest of the run is a run from there. -/
theorem activeBankIsNeverTorn : Obligations.ActiveBankIsNeverTorn := by
  intro k
  induction k with
  | zero =>
    intro s t hrun
    cases hrun
    exact .inl rfl
  | succ k ih =>
    intro s t hrun
    have hstep := step_answers_next s
    have hrest := fun j => core_run_next j hstep
    rw [hrest] at hrun
    rcases ih _ t hrun with hkept | ⟨j, u, hj, hu, htaken⟩
    · rcases step_active hstep with hfirst | ⟨hfirst, hclosed, hdirty, hvalid⟩
      · exact .inl (hkept.trans hfirst)
      · exact .inr ⟨0, s, Nat.zero_le _, rfl, hclosed, hdirty, hvalid, hkept.trans hfirst⟩
    · exact .inr ⟨j + 1, u, Nat.succ_le_succ hj, (hrest j).trans hu, htaken⟩

end Sys2Proof.Proofs

/-! PROOFS. Non-interference of the shadow bank (spec R55, R60): beside the snapshot no stage of a tick reads or writes
it. -/

namespace Sys2Proof.Machine

variable {s : State}

/-- `s` with another shadow bank. -/
def setShadow (B : Bank) (s : State) : State := { s with shadow := B }

theorem stageSnap_of_open (hbusy : s.cfgBusy = true) : stageSnap s = s := by
  obtain ⟨hsnapshot, htakes⟩ := State.snapshot_of_nothing (.inl hbusy)
  simp [stageSnap, hsnapshot, htakes]

theorem receive_setShadow (now : BitVec 64) (rx : Option Rx) (B : Bank) (s : State) :
    receive now rx (setShadow B s) = setShadow B (receive now rx s) := by
  cases rx with
  | none => rfl
  | some r =>
    simp only [receive, apply_ite (setShadow B)]
    rfl

theorem enterFailsafe_setShadow (c : BitVec 4) (B : Bank) (s : State) :
    enterFailsafe c (setShadow B s) = setShadow B (enterFailsafe c s) := by
  simp only [enterFailsafe, apply_ite (setShadow B)]
  rfl

theorem supervise_setShadow (now : BitVec 64) (B : Bank) (s : State) :
    supervise now (setShadow B s) = setShadow B (supervise now s) := by
  simp only [supervise, enterFailsafe_setShadow, apply_ite (setShadow B)]
  rfl

theorem stageLive_setShadow (now : BitVec 64) (rx : Option Rx) (v : Bool) (B : Bank) (s : State) :
    stageLive now rx v (setShadow B s) = setShadow B (stageLive now rx v s) := by
  rw [stageLive, stageLive, receive_setShadow, ← supervise_setShadow]
  rfl

theorem updateHold_setShadow (B : Bank) (s : State) : updateHold (setShadow B s) = setShadow B (updateHold s) := by
  have hzero : (if holdDetected s.active s.latest ≠ s.inHold then (setShadow B s).zeroStab else setShadow B s) =
      setShadow B (if holdDetected s.active s.latest ≠ s.inHold then s.zeroStab else s) := by
    rw [apply_ite (setShadow B)]
    rfl
  exact congrArg (fun u : State => { u with inHold := holdDetected s.active s.latest }) hzero

theorem stageStab_setShadow (gyro : Option (Axes ℚ)) (B : Bank) (s : State) :
    stageStab gyro (setShadow B s) = (stageStab gyro s).map (setShadow B) id := by
  have hpid : stabPidHold gyro (setShadow B s) = (stabPidHold gyro s).map (setShadow B) id := by
    unfold stabPidHold
    rw [updateHold_setShadow]
    cases gyro <;> rfl
  have hproportional : stabProportional gyro (setShadow B s) = (stabProportional gyro s).map (setShadow B) id := by
    cases gyro <;> rfl
  simp only [stageStab, hpid, hproportional, apply_ite (Prod.map (setShadow B) id)]
  rfl

theorem stageTargets_setShadow (gyro : Option (Axes ℚ)) (B : Bank) (s : State) :
    stageTargets gyro (setShadow B s) = (stageTargets gyro s).map (setShadow B) id := by
  simp only [stageTargets, stageStab_setShadow, apply_ite (Prod.map (setShadow B) id)]
  rfl

theorem stagesAfterLive_setShadow (gyro : Option (Axes ℚ)) (B : Bank) (s : State) :
    stagesAfterLive gyro (setShadow B s) = setShadow B (stagesAfterLive gyro s) := by
  have hled : stageLed (setShadow B s) = setShadow B (stageLed s) := rfl
  unfold stagesAfterLive
  rw [hled, stageTargets_setShadow]
  rfl

/-- With a bracket open a running tick is the same for every shadow bank, and leaves it in place. -/
theorem runTick_setShadow (hbusy : s.cfgBusy = true) (now : BitVec 64) (rx : Option Rx) (gyro : Option (Axes ℚ))
    (B : Bank) : runTick now rx gyro (setShadow B s) = setShadow B (runTick now rx gyro s) := by
  simp only [runTick, stageSnap_of_open hbusy, stageSnap_of_open (s := setShadow B s) hbusy, stageLive_setShadow,
    stagesAfterLive_setShadow, apply_ite (setShadow B)]
  rfl

end Sys2Proof.Machine

namespace Sys2Proof.Proofs

open Sys2Proof.Machine

/-- Settles O20: a stopped engine refuses the tick, a running one performs it as `runTick_setShadow` says. -/
theorem openBracketHidesTheShadowBank : Obligations.OpenBracketHidesTheShadowBank := by
  intro s B now rx gyro hbusy
  change ∃ t, _ ∧ _ ∧ exec _ (setShadow B s) = .next (setShadow B t)
  cases hen : s.en with
  | false =>
    refine ⟨_, exec_tick_of_stopped hen now rx gyro, rfl, ?_⟩
    exact exec_tick_of_stopped (s := setShadow B s) hen now rx gyro
  | true =>
    have hshadow : (runTick now rx (gyro.map gyroRates) s).shadow = s.shadow := by rw [runTick_eq]
    refine ⟨_, exec_tick_of_running hen now rx gyro, hshadow, ?_⟩
    rw [exec_tick_of_running (s := setShadow B s) hen, runTick_setShadow hbusy]

end Sys2Proof.Proofs

/-! PROOFS. The decoder in numbers (spec R70 to R75, R80, R81): first the header word, then what `decode` answers for
each outcome of the header check, then the encoder's words. -/

namespace Sys2Proof

open Sys2Proof.Machine Sys2Proof.Safety

variable {p : Port} {w : Word} {op : Opcode}

/-! ## The header word -/

theorem headerOpcode_toNat (w : Word) : (headerOpcode w).toNat = w.toNat / 2 ^ 24 := by
  have hsize : w.toNat / 2 ^ 24 < 2 ^ 8 := by omega
  rw [headerOpcode, toNat_extractLsb'_eq_div_mod, Nat.mod_eq_of_lt hsize]

theorem headerArg_toNat (w : Word) : (headerArg w).toNat = w.toNat % 2 ^ 24 := by
  rw [headerArg, toNat_extractLsb'_eq_div_mod, pow_zero, Nat.div_one]

theorem lookupOpcode_eq_some_iff (b : BitVec 8) (op : Opcode) : lookupOpcode b = some op ↔ op.code = b := by
  constructor
  · unfold lookupOpcode
    intro hfound
    split_ifs at hfound <;> cases hfound <;> exact Eq.symm ‹_›
  · rintro rfl
    cases op <;> rfl

/-- How many of the lowest bits of `arg` are fields of a command (R73 to R75). -/
def Opcode.argBits : Opcode → ℕ
  | .tick => 2
  | .cfgwr => 5
  | .init => 0
  | .disable => 0
  | .cfgbegin => 0
  | .cfgend => 0

theorem Opcode.argFields_eq_mask (op : Opcode) : op.argFields = BitVec.ofNat 24 (2 ^ op.argBits - 1) := by
  cases op <;> rfl

/-- No must-be-zero bit of `arg` is set exactly where its number fits the fields. -/
theorem reservedArg_eq_zero_iff (a : BitVec 24) (op : Opcode) :
    a &&& ~~~op.argFields = 0 ↔ a.toNat < 2 ^ op.argBits := by
  have hmask : ∀ i, i < 24 → op.argFields.getLsbD i = decide (i < op.argBits) := fun i hi => by
    rw [op.argFields_eq_mask, BitVec.getLsbD_ofNat, Nat.testBit_two_pow_sub_one, decide_eq_true hi, Bool.true_and]
  have hreserved : ∀ i, i < 24 → (a &&& ~~~op.argFields).getLsbD i = (a.getLsbD i && !decide (i < op.argBits)) :=
    fun i hi => by rw [BitVec.getLsbD_and, BitVec.getLsbD_not, hmask i hi, decide_eq_true hi, Bool.true_and]
  constructor
  · intro hzero
    refine Nat.lt_pow_two_of_testBit _ fun i hi => ?_
    rw [BitVec.testBit_toNat]
    by_cases hwidth : i < 24
    · simpa [hzero, not_lt.mpr hi] using (hreserved i hwidth).symm
    · exact BitVec.getLsbD_of_ge a i (not_lt.mp hwidth)
  · intro hfits
    refine BitVec.eq_of_getLsbD_eq fun i hi => (hreserved i hi).trans ?_
    by_cases hfield : i < op.argBits
    · simp [hfield]
    · have hlarge : 2 ^ op.argBits ≤ 2 ^ i := Nat.pow_le_pow_right (by decide) (not_lt.mp hfield)
      have hbit : a.getLsbD i = false := Nat.testBit_eq_false_of_lt (hfits.trans_le hlarge)
      simp [hbit]

/-- The header check of R81 in numbers. -/
theorem decodeHeader_eq_ok_iff :
    decodeHeader p w = .ok op ↔
      w.toNat / 2 ^ 24 = op.code.toNat ∧ op.port = p ∧ w.toNat % 2 ^ 24 < 2 ^ op.argBits := by
  rw [← headerOpcode_toNat, ← headerArg_toNat, BitVec.toNat_inj, ← reservedArg_eq_zero_iff, eq_comm (b := op.code),
    ← lookupOpcode_eq_some_iff]
  unfold decodeHeader
  cases lookupOpcode (headerOpcode w) with
  | none => simp
  | some found =>
    simp only [Option.some.injEq]
    split_ifs with hport harg
    · simp only [false_iff]
      rintro ⟨rfl, hfound, _⟩
      exact hport hfound
    · simp only [false_iff]
      rintro ⟨rfl, _, hfound⟩
      exact harg hfound
    · simp only [Except.ok.injEq, iff_self_and]
      rintro rfl
      exact ⟨not_not.mp hport, not_not.mp harg⟩

/-- Every number from 1 to 6 is an assigned opcode (R72). -/
theorem exists_opcode_of_number {n : ℕ} (hlow : 1 ≤ n) (hhigh : n ≤ 6) : ∃ op : Opcode, n = op.code.toNat := by
  interval_cases n
  exacts [⟨.init, rfl⟩, ⟨.tick, rfl⟩, ⟨.disable, rfl⟩, ⟨.cfgbegin, rfl⟩, ⟨.cfgwr, rfl⟩, ⟨.cfgend, rfl⟩]

/-- For an assigned opcode two of the three ways of R81 are left: the wrong port and a must-be-zero bit. -/
theorem headerIllegal_iff_of_opcode (hop : w.toNat / 2 ^ 24 = op.code.toNat) :
    headerIllegal p w ↔ op.port ≠ p ∨ 2 ^ op.argBits ≤ w.toNat % 2 ^ 24 := by
  unfold headerIllegal
  simp only [hop]
  cases op <;> cases p <;> simp [Opcode.code, Opcode.port, Opcode.argBits] <;> omega

/-- The legal headers of a port are those that the decoder takes. -/
theorem not_headerIllegal_iff : ¬ headerIllegal p w ↔ ∃ op, decodeHeader p w = .ok op := by
  simp only [decodeHeader_eq_ok_iff]
  constructor
  · intro hlegal
    have hassigned : ¬ (w.toNat / 2 ^ 24 = 0 ∨ 7 ≤ w.toNat / 2 ^ 24) := fun h => hlegal (.inl h)
    obtain ⟨op, hop⟩ : ∃ op : Opcode, w.toNat / 2 ^ 24 = op.code.toNat :=
      exists_opcode_of_number (by omega) (by omega)
    rw [headerIllegal_iff_of_opcode hop, not_or, not_not, not_le] at hlegal
    exact ⟨op, hop, hlegal⟩
  · rintro ⟨op, hop, hport, harg⟩
    rw [headerIllegal_iff_of_opcode hop, not_or, not_not, not_le]
    exact ⟨hport, harg⟩

theorem decodeHeader_of_illegal (hillegal : headerIllegal p w) : ∃ why, decodeHeader p w = .error why := by
  cases hheader : decodeHeader p w with
  | error why => exact ⟨why, rfl⟩
  | ok op => exact absurd hillegal (not_headerIllegal_iff.mpr ⟨op, hheader⟩)

/-- The opcode of a legal header, by its number. -/
theorem decodeHeader_of_legal (hlegal : ¬ headerIllegal p w) (hop : w.toNat / 2 ^ 24 = op.code.toNat) :
    decodeHeader p w = .ok op := by
  rw [headerIllegal_iff_of_opcode hop, not_or, not_not, not_le] at hlegal
  exact decodeHeader_eq_ok_iff.mpr ⟨hop, hlegal⟩

/-! ## The stream behind a checked header -/

variable {ws : List Word}

theorem decode_of_error {why : Reject} (h : decodeHeader p w = .error why) :
    decode p (w :: ws) = .illegal why 1 := by simp only [decode, h]

theorem decode_of_init (h : decodeHeader p w = .ok .init) : decode p (w :: ws) = .command .init 1 := by
  simp only [decode, h]

theorem decode_of_disable (h : decodeHeader p w = .ok .disable) : decode p (w :: ws) = .command .disable 1 := by
  simp only [decode, h]

theorem decode_of_cfgbegin (h : decodeHeader p w = .ok .cfgbegin) : decode p (w :: ws) = .command .cfgbegin 1 := by
  simp only [decode, h]

theorem decode_of_cfgend (h : decodeHeader p w = .ok .cfgend) : decode p (w :: ws) = .command .cfgend 1 := by
  simp only [decode, h]

theorem decode_of_cfgwr {v : Word} (h : decodeHeader p w = .ok .cfgwr) :
    decode p (w :: v :: ws) = .command (.cfgwr (w.extractLsb' 0 5) v) 2 := by
  simp only [decode, h]

section Tick

variable {w0 w1 w2 w3 w4 w5 w6 w7 w8 w9 w10 : Word}

theorem decode_of_tick (h : decodeHeader p w0 = .ok .tick) :
    decode p (w0 :: w1 :: w2 :: w3 :: w4 :: w5 :: w6 :: w7 :: w8 :: w9 :: w10 :: ws) =
      decodeTick w0 w1 w2 w3 w4 w5 w6 w7 w8 w9 w10 := by
  simp only [decode, h]

theorem decodeTick_of_reserved (hrx : headerRxValid w0 = true) (hreserved : highHalf w7 ≠ 0) :
    decodeTick w0 w1 w2 w3 w4 w5 w6 w7 w8 w9 w10 = .illegal .reservedButtonsBit 11 := if_pos ⟨hrx, hreserved⟩

theorem decodeTick_of_legal (hlegal : headerRxValid w0 = true → highHalf w7 = 0) :
    decodeTick w0 w1 w2 w3 w4 w5 w6 w7 w8 w9 w10 =
      .command
        (.tick (w2 ++ w1) (if headerRxValid w0 then some ⟨w3, frameOfWords w4 w5 w6 w7⟩ else none)
          (if headerGyroValid w0 then some ⟨w8, w9, w10⟩ else none)) 11 :=
  if_neg fun hreserved => hreserved.2 (hlegal hreserved.1)

end Tick

/-- A header whose payload has not wholly arrived is no command yet (R70). -/
theorem decode_of_short (h : decodeHeader p w = .ok op) (hshort : ws.length < op.payload) :
    decode p (w :: ws) = .incomplete := by
  cases op with
  | tick =>
    simp only [decode, h]
    split
    · simp only [List.length_cons, Opcode.payload] at hshort
      omega
    · rfl
  | cfgwr =>
    cases ws with
    | nil => simp only [decode, h]
    | cons v rest => simp [Opcode.payload] at hshort
  | init => exact absurd hshort (Nat.not_lt_zero _)
  | disable => exact absurd hshort (Nat.not_lt_zero _)
  | cfgbegin => exact absurd hshort (Nat.not_lt_zero _)
  | cfgend => exact absurd hshort (Nat.not_lt_zero _)

/-- The payload words of a `TICK` by name. -/
theorem exists_ten_words (hlength : 10 ≤ ws.length) : ∃ w1 w2 w3 w4 w5 w6 w7 w8 w9 w10 rest,
    ws = w1 :: w2 :: w3 :: w4 :: w5 :: w6 :: w7 :: w8 :: w9 :: w10 :: rest := by
  match ws, hlength with
  | w1 :: w2 :: w3 :: w4 :: w5 :: w6 :: w7 :: w8 :: w9 :: w10 :: rest, _ =>
    exact ⟨w1, w2, w3, w4, w5, w6, w7, w8, w9, w10, rest, rfl⟩

/-! ## The encoder's words -/

theorem wellFormedOn_iff (p : Port) (i : Instr) : i.wellFormedOn p = true ↔ i.port = p := beq_iff_eq

/-- The five words of a frame, or of none, are legal and give it back. -/
theorem encodeRx_words (rx : Option Rx) : ∃ w3 w4 w5 w6 w7, encodeRx rx = [w3, w4, w5, w6, w7] ∧
    highHalf w7 = 0 ∧ (if rx.isSome then some ⟨w3, frameOfWords w4 w5 w6 w7⟩ else none) = rx := by
  cases rx with
  | none => exact ⟨0, 0, 0, 0, 0, rfl, rfl, rfl⟩
  | some r => exact ⟨_, _, _, _, _, rfl, highHalf_packHalves _ _, by simp [frameOfWords]⟩

/-- The three words of a gyro sample, or of none, give it back. -/
theorem encodeGyro_words (gyro : Option GyroWords) : ∃ w8 w9 w10, encodeGyro gyro = [w8, w9, w10] ∧
    (if gyro.isSome then some ⟨w8, w9, w10⟩ else none) = gyro := by
  cases gyro with
  | none => exact ⟨0, 0, 0, rfl, rfl⟩
  | some g => exact ⟨_, _, _, rfl, rfl⟩

theorem decode_encode_tick (now : BitVec 64) (rx : Option Rx) (gyro : Option GyroWords) (rest : List Word) :
    decode .ctl (encode (.tick now rx gyro) ++ rest) = .command (.tick now rx gyro) 11 := by
  obtain ⟨w3, w4, w5, w6, w7, hrxWords, hreserved, hrx⟩ := encodeRx_words rx
  obtain ⟨w8, w9, w10, hgyroWords, hgyro⟩ := encodeGyro_words gyro
  rw [encode, hrxWords, hgyroWords]
  calc decode .ctl (_ :: _ :: _ :: w3 :: w4 :: w5 :: w6 :: w7 :: w8 :: w9 :: w10 :: rest)
    _ = decodeTick _ _ _ w3 w4 w5 w6 w7 w8 w9 w10 := decode_of_tick (decodeHeader_tick _ _)
    _ = .command (.tick now rx gyro) 11 := by
      rw [decodeTick_of_legal fun _ => hreserved, headerRxValid_tick, headerGyroValid_tick, now_of_halves, hrx, hgyro]

/-- The decoder inverts the encoder. -/
theorem decode_encode (i : Instr) (rest : List Word) :
    decode i.port (encode i ++ rest) = .command i (encode i).length := by
  rw [encode_length]
  cases i with
  | init => exact decode_of_init rfl
  | tick now rx gyro => exact decode_encode_tick now rx gyro rest
  | disable => exact decode_of_disable rfl
  | cfgbegin => exact decode_of_cfgbegin rfl
  | cfgwr idx value =>
    have hdecode := decode_of_cfgwr (v := value) (ws := rest) (decodeHeader_cfgwr idx)
    rwa [index_cfgwr] at hdecode
  | cfgend => exact decode_of_cfgend rfl

/-- The words of every command begin with a header that is legal on its port (R82). -/
theorem encodedLength (i : Instr) : Laws.EncodedLength.Statement i := by
  cases i with
  | init => exact Laws.EncodedLength.init
  | tick now rx gyro => exact Laws.EncodedLength.tick now rx gyro
  | disable => exact Laws.EncodedLength.disable
  | cfgbegin => exact Laws.EncodedLength.cfgbegin
  | cfgwr idx value => exact Laws.EncodedLength.cfgwr idx value
  | cfgend => exact Laws.EncodedLength.cfgend

/-- No proper beginning of a command's words is a command, nor is it illegal (R70). -/
theorem decode_take_encode (i : Instr) {k : ℕ} (hk : k < (encode i).length) :
    decode i.port ((encode i).take k) = .incomplete := by
  obtain ⟨op, w, payload, hwords, hheader, hpayload⟩ := encodedLength i
  rw [hwords] at hk ⊢
  cases k with
  | zero => rfl
  | succ k =>
    have hshort : (payload.take k).length < op.payload := by
      rw [List.length_cons, hpayload] at hk
      exact (List.length_take_le k payload).trans_lt (Nat.lt_of_succ_lt_succ hk)
    exact decode_of_short hheader hshort

end Sys2Proof

namespace Sys2Proof.Machine

variable {s : State} {p : Port} {r : List Port}

/-- The step on an illegal word at the front of the stream whose turn it is (R81). -/
theorem step_of_illegal (hturns : s.turns = p :: r) {why : Reject} {n : ℕ}
    (hdecode : decode p (s.stream p) = .illegal why n) :
    step s = .next { s.setStream p ((s.stream p).drop n) with turns := r, cmdErr := true } := by
  have hrefused : step s = .next (s.nextTurn.consume p n).refuseCmd := by simp only [step, fetch, hturns, hdecode]
  rw [hrefused, State.consume_nextTurn hturns]
  rfl

/-- The step when the port whose turn it is has no complete command waiting (R70). -/
theorem step_of_incomplete (hturns : s.turns = p :: r) (hdecode : decode p (s.stream p) = .incomplete) :
    step s = .next { s with turns := r } := by
  have hwaiting : step s = .next s.nextTurn := by simp only [step, fetch, hturns, hdecode]
  rw [hwaiting, State.nextTurn, hturns, List.tail_cons]

end Sys2Proof.Machine

namespace Sys2Proof.Proofs

open Sys2Proof.Machine Sys2Proof.Safety

/-- Settles O1: on the port that `wellFormedOn` fixes, this is `decode_encode`. -/
theorem decodeEncodeRoundTrip : Obligations.DecodeEncodeRoundTrip := by
  intro p i rest hport
  obtain rfl := (wellFormedOn_iff p i).mp hport
  exact decode_encode i rest

/-- Settles O2: a proper beginning of the words decodes to nothing yet. -/
theorem partlyDeliveredCommandHasNoEffect : Obligations.PartlyDeliveredCommandHasNoEffect := by
  intro s p r i k hport hk hturns hstream
  obtain rfl := (wellFormedOn_iff p i).mp hport
  exact step_of_incomplete hturns (hstream ▸ decode_take_encode i hk)

end Sys2Proof.Proofs

/-! PROOFS. The operands of R74, R75, R77 and R80 in numbers. -/

namespace Sys2Proof

open Sys2Proof.Machine Sys2Proof.Safety

theorem lowHalf_eq_ofNat (w : Word) : lowHalf w = BitVec.ofNat 16 (w.toNat % 2 ^ 16) := by
  refine BitVec.eq_of_toNat_eq ?_
  rw [lowHalf, toNat_extractLsb'_eq_div_mod, BitVec.toNat_ofNat, pow_zero, Nat.div_one, Nat.mod_mod]

theorem highHalf_eq_ofNat (w : Word) : highHalf w = BitVec.ofNat 16 (w.toNat / 2 ^ 16) := by
  refine BitVec.eq_of_toNat_eq ?_
  rw [highHalf, toNat_extractLsb'_eq_div_mod, BitVec.toNat_ofNat]

theorem highHalf_eq_zero_iff (w : Word) : highHalf w = 0 ↔ w.toNat / 2 ^ 16 = 0 := by
  have hsize : w.toNat / 2 ^ 16 < 2 ^ 16 := by omega
  rw [← BitVec.toNat_inj, highHalf, toNat_extractLsb'_eq_div_mod, Nat.mod_eq_of_lt hsize]
  rfl

theorem index_eq_ofNat (w : Word) : w.extractLsb' 0 5 = BitVec.ofNat 5 (w.toNat % 32) := by
  refine BitVec.eq_of_toNat_eq ?_
  rw [toNat_extractLsb'_eq_div_mod, BitVec.toNat_ofNat, pow_zero, Nat.div_one]
  exact (Nat.mod_mod w.toNat 32).symm

theorem now_eq_ofNat (high low : Word) : high ++ low = BitVec.ofNat 64 (high.toNat * 2 ^ 32 + low.toNat) := by
  refine BitVec.eq_of_toNat_eq ?_
  have hsize : high.toNat * 2 ^ 32 + low.toNat < 2 ^ 64 := by omega
  rw [BitVec.toNat_append, ← Nat.shiftLeft_add_eq_or_of_lt low.isLt, Nat.shiftLeft_eq, BitVec.toNat_ofNat,
    Nat.mod_eq_of_lt hsize]

theorem headerRxValid_iff (w : Word) : headerRxValid w = true ↔ w.toNat % 2 = 1 := by
  rw [headerRxValid, getLsbD_eq_div_mod, decide_eq_true_iff, pow_zero, Nat.div_one]

theorem headerGyroValid_iff (w : Word) : headerGyroValid w = true ↔ w.toNat / 2 % 2 = 1 := by
  rw [headerGyroValid, getLsbD_eq_div_mod, decide_eq_true_iff, pow_one]

section Tick

variable {w0 w1 w2 w3 w4 w5 w6 w7 w8 w9 w10 : Word}

/-- Without `rx_valid` nothing of W3 to W7 is read (R74). -/
theorem decodeTick_of_no_rx (hrx : headerRxValid w0 = false) :
    decodeTick w0 w1 w2 w3 w4 w5 w6 w7 w8 w9 w10 = decodeTick w0 w1 w2 0 0 0 0 0 w8 w9 w10 := by
  simp only [decodeTick, hrx, Bool.false_eq_true, false_and, if_false]

/-- Without `gyro_valid` nothing of W8 to W10 is read (R74). -/
theorem decodeTick_of_no_gyro (hgyro : headerGyroValid w0 = false) :
    decodeTick w0 w1 w2 w3 w4 w5 w6 w7 w8 w9 w10 = decodeTick w0 w1 w2 w3 w4 w5 w6 w7 0 0 0 := by
  simp only [decodeTick, hgyro, Bool.false_eq_true, if_false]

/-- A header with the opcode of `TICK` is legal or not whatever follows it: what eleven words decode to depends on the
payload through `decodeTick` only. -/
theorem decode_tick_congr {v1 v2 v3 v4 v5 v6 v7 v8 v9 v10 : Word} {ws : List Word}
    (hop : w0.toNat / 2 ^ 24 = Opcode.tick.code.toNat)
    (heq : decodeTick w0 w1 w2 w3 w4 w5 w6 w7 w8 w9 w10 = decodeTick w0 v1 v2 v3 v4 v5 v6 v7 v8 v9 v10) :
    decode .ctl (w0 :: w1 :: w2 :: w3 :: w4 :: w5 :: w6 :: w7 :: w8 :: w9 :: w10 :: ws) =
      decode .ctl (w0 :: v1 :: v2 :: v3 :: v4 :: v5 :: v6 :: v7 :: v8 :: v9 :: v10 :: ws) := by
  by_cases hlegal : headerIllegal .ctl w0
  · obtain ⟨why, hheader⟩ := decodeHeader_of_illegal hlegal
    rw [decode_of_error hheader, decode_of_error hheader]
  · have hheader := decodeHeader_of_legal hlegal hop
    rw [decode_of_tick hheader, decode_of_tick hheader, heq]

end Tick

/-- A legal header with its payload is a command of the port, of as many words as the encoder gives it, unless it is the
`TICK` of R81 whose W7 is illegal. -/
theorem decode_of_legal {p : Port} {w : Word} {ws : List Word} (hlegal : ¬ headerIllegal p w)
    (hlength : 10 ≤ ws.length) :
    (w.toNat / 2 ^ 24 = 2 ∧ w.toNat % 2 = 1 ∧ (ws[6]?.getD 0).toNat / 2 ^ 16 ≠ 0) ∨
    ∃ i n, decode p (w :: ws) = .command i n ∧ i.wellFormedOn p = true ∧ n = (encode i).length := by
  obtain ⟨op, hheader⟩ := not_headerIllegal_iff.mp hlegal
  obtain ⟨hop, rfl, -⟩ := decodeHeader_eq_ok_iff.mp hheader
  obtain ⟨w1, w2, w3, w4, w5, w6, w7, w8, w9, w10, rest, rfl⟩ := exists_ten_words hlength
  cases op with
  | init => exact .inr ⟨_, _, decode_of_init hheader, rfl, rfl⟩
  | disable => exact .inr ⟨_, _, decode_of_disable hheader, rfl, rfl⟩
  | cfgbegin => exact .inr ⟨_, _, decode_of_cfgbegin hheader, rfl, rfl⟩
  | cfgwr => exact .inr ⟨_, _, decode_of_cfgwr hheader, rfl, rfl⟩
  | cfgend => exact .inr ⟨_, _, decode_of_cfgend hheader, rfl, rfl⟩
  | tick =>
    by_cases hreserved : headerRxValid w = true ∧ highHalf w7 ≠ 0
    · rw [headerRxValid_iff, ne_eq, highHalf_eq_zero_iff] at hreserved
      exact .inl ⟨hop, hreserved⟩
    · rw [not_and, not_not] at hreserved
      exact .inr ⟨_, _, (decode_of_tick hheader).trans (decodeTick_of_legal hreserved), rfl,
        (encode_length (.tick _ _ _)).symm⟩

/-- The command of a legal `TICK`, its operands the numbers that their bits stand for (R74, R80). -/
theorem decode_tick_of_legal {w0 w1 w2 w3 w4 w5 w6 w7 w8 w9 w10 : Word} {ws : List Word}
    (hheader : decodeHeader .ctl w0 = .ok .tick) (hlegal : w0.toNat % 2 = 1 → w7.toNat / 2 ^ 16 = 0) :
    let lo (w : Word) : BitVec 16 := BitVec.ofNat 16 (w.toNat % 2 ^ 16)
    let hi (w : Word) : BitVec 16 := BitVec.ofNat 16 (w.toNat / 2 ^ 16)
    let rx : Rx := ⟨w3, ⟨lo w4, hi w4, lo w5, hi w5, lo w6, hi w6, lo w7⟩⟩
    decode .ctl (w0 :: w1 :: w2 :: w3 :: w4 :: w5 :: w6 :: w7 :: w8 :: w9 :: w10 :: ws) =
      .command
        (.tick (BitVec.ofNat 64 (w2.toNat * 2 ^ 32 + w1.toNat)) (if w0.toNat % 2 = 1 then some rx else none)
          (if w0.toNat / 2 % 2 = 1 then some ⟨w8, w9, w10⟩ else none)) 11 := by
  intro lo hi rx
  rw [← headerRxValid_iff, ← highHalf_eq_zero_iff] at hlegal
  rw [decode_of_tick hheader, decodeTick_of_legal hlegal]
  simp only [headerRxValid_iff, headerGyroValid_iff, now_eq_ofNat, frameOfWords, lowHalf_eq_ofNat, highHalf_eq_ofNat,
    rx, lo, hi]

end Sys2Proof

namespace Sys2Proof.Machine

open Sys2Proof.Safety

variable {s : State} {p : Port} {r : List Port} {ws : List Word}

/-- An illegal header takes one word off its port and sets `cmd_err` (R81). -/
theorem step_of_headerIllegal {w : Word} (hturns : s.turns = p :: r) (hstream : s.stream p = w :: ws)
    (hillegal : headerIllegal p w) : step s = .next { s.setStream p ws with turns := r, cmdErr := true } := by
  obtain ⟨why, hheader⟩ := decodeHeader_of_illegal hillegal
  rw [step_of_illegal hturns (hstream ▸ decode_of_error hheader), hstream]
  rfl

/-- A `TICK` whose W7 is illegal takes all its eleven words off port CTL and sets `cmd_err` (R81). -/
theorem step_of_reservedButtons {w0 w1 w2 w3 w4 w5 w6 w7 w8 w9 w10 : Word} (hturns : s.turns = .ctl :: r)
    (hstream : s.stream .ctl = w0 :: w1 :: w2 :: w3 :: w4 :: w5 :: w6 :: w7 :: w8 :: w9 :: w10 :: ws)
    (hheader : decodeHeader .ctl w0 = .ok .tick) (hrx : headerRxValid w0 = true) (hreserved : highHalf w7 ≠ 0) :
    step s = .next { s with ctlIn := ws, turns := r, cmdErr := true } := by
  have hdecode : decode .ctl (s.stream .ctl) = .illegal .reservedButtonsBit 11 := by
    rw [hstream, decode_of_tick hheader, decodeTick_of_reserved hrx hreserved]
  rw [step_of_illegal hturns hdecode, hstream]
  rfl

end Sys2Proof.Machine

namespace Sys2Proof.Proofs

open Sys2Proof.Machine Sys2Proof.Safety

/-- Settles O3: the header check decides what is illegal, and each legal opcode has its own decoding. -/
theorem illegalWordsAreRefusedAndConsumed : Obligations.IllegalWordsAreRefusedAndConsumed := by
  refine ⟨fun s p r w ws hturns hstream hillegal => step_of_headerIllegal hturns hstream hillegal, ?_,
    fun p => .inl (.inl rfl), fun p w ws hlegal hlength => decode_of_legal hlegal hlength, ?_, ?_, ?_, ?_⟩
  · intro s r w0 w1 w2 w3 w4 w5 w6 w7 w8 w9 w10 ws hturns hstream hlegal hop hrx hreserved
    exact step_of_reservedButtons hturns hstream (decodeHeader_of_legal hlegal hop) ((headerRxValid_iff w0).mpr hrx)
      (mt (highHalf_eq_zero_iff w7).mp hreserved)
  · intro p w ws hlegal
    have hheader : ∀ op : Opcode, w.toNat / 2 ^ 24 = op.code.toNat → decodeHeader p w = .ok op :=
      fun op hop => decodeHeader_of_legal hlegal hop
    refine ⟨fun hop => decode_of_init (hheader .init hop), fun hop => decode_of_disable (hheader .disable hop),
      fun hop => decode_of_cfgbegin (hheader .cfgbegin hop), fun hop => decode_of_cfgend (hheader .cfgend hop),
      fun hop v => ?_⟩
    rw [decode_of_cfgwr (hheader .cfgwr hop), index_eq_ofNat]
  · intro w0 w1 w2 w3 w4 w5 w6 w7 w8 w9 w10 ws hlegal hop hreserved
    exact decode_tick_of_legal (decodeHeader_of_legal hlegal hop) hreserved
  · intro w0 w1 w2 w3 w4 w5 w6 w7 w8 w9 w10 v3 v4 v5 v6 v7 v8 v9 v10 ws hop
    refine ⟨fun hrx => decode_tick_congr hop ?_, fun hgyro => decode_tick_congr hop ?_⟩
    · have hnone : headerRxValid w0 = false := by simp [Bool.eq_false_iff, headerRxValid_iff, hrx]
      exact (decodeTick_of_no_rx hnone).trans (decodeTick_of_no_rx hnone).symm
    · have hnone : headerGyroValid w0 = false := by simp [Bool.eq_false_iff, headerGyroValid_iff, hgyro]
      exact (decodeTick_of_no_gyro hnone).trans (decodeTick_of_no_gyro hnone).symm
  · intro g
    rw [gyroRates, f6_eq_millionths, f6_eq_millionths, f6_eq_millionths]

end Sys2Proof.Proofs

/-! PROOFS. The F6 format (spec R77), the assembler lines (R83) and the worked encodings (R86). -/

namespace Sys2Proof.Machine

variable {v : ℚ}

/-- In the range of F6 the encoding is the word of the rounded count of millionths. -/
theorem encF6_of_mem (hlow : -2 ^ 31 ≤ v * Config.million) (hhigh : v * Config.million < 2 ^ 31) :
    ∃ w, encF6 v = some w ∧ w.toInt = (v * Config.million).floor := by
  have hlow' : -2 ^ 31 ≤ (v * Config.million).floor := Rat.le_floor_iff.mpr (by exact_mod_cast hlow)
  have hhigh' : (v * Config.million).floor < 2 ^ 31 := Rat.floor_lt_iff.mpr (by exact_mod_cast hhigh)
  exact ⟨_, if_pos ⟨hlow', hhigh'⟩, BitVec.toInt_ofInt_eq_self (by decide) hlow' hhigh'⟩

theorem encF6_of_not_mem (hout : v * Config.million < -2 ^ 31 ∨ 2 ^ 31 ≤ v * Config.million) : encF6 v = none := by
  refine if_neg fun hmem => ?_
  obtain ⟨hlow, hhigh⟩ := hmem
  rcases hout with hbelow | habove
  · exact not_lt.mpr hlow (Rat.floor_lt_iff.mpr (by exact_mod_cast hbelow))
  · exact not_le.mpr hhigh (Rat.le_floor_iff.mpr (by exact_mod_cast habove))

theorem f6_of_toInt {w : Word} {n : ℤ} (hvalue : w.toInt = n) : f6 w = (n : ℚ) / 10 ^ 6 :=
  hvalue ▸ f6_eq_millionths w

/-- `enc_F6` gives back every word from its value. -/
theorem encF6_f6 (w : Word) : encF6 (f6 w) = some w := by
  have hcount : f6 w * Config.million = w.toInt := by
    rw [f6, div_mul_cancel₀ _ (by norm_num [Config.million])]
  obtain ⟨u, hencode, hvalue⟩ := encF6_of_mem (v := f6 w)
    (by rw [hcount]; exact_mod_cast w.le_toInt) (by rw [hcount]; exact_mod_cast w.toInt_lt)
  rw [hcount, Rat.floor_intCast] at hvalue
  rw [hencode, BitVec.eq_of_toInt_eq hvalue]

/-- A word that counts the millionths of `v` rounded down is the last one not above `v`. -/
theorem f6_bounds_of_floor {w : Word} (hfloor : w.toInt = (v * Config.million).floor) :
    f6 w ≤ v ∧ v < f6 w + 1 / 1000000 := by
  have hle := Rat.floor_le (v * Config.million)
  have hlt := Rat.lt_floor_add_one (v * Config.million)
  rw [← hfloor, million_eq] at hle hlt
  rw [f6_eq_millionths]
  push_cast at hle hlt
  constructor <;> linarith

/-- A line that holds nothing but a command that names no port gives the command's words on the command's own port
(R83). -/
theorem assembleLine_of_command {line : List Char} {i : Instr} (hline : trim (line.takeWhile (· ≠ '#')) = line)
    (hport : parsePrefix line = (none, line)) (hcommand : parseCommand line = some i) :
    assembleLine (String.ofList line) = some [(i.port, encode i)] := by
  have hnotBlank : line.isEmpty = false := by
    cases line with
    | nil =>
      have hnone : parseCommand [] = none := by decide
      rw [hnone] at hcommand
      cases hcommand
    | cons c cs => rfl
  simp only [assembleLine, String.toList_ofList, hline, hnotBlank, hport, hcommand, Bool.false_eq_true, if_false,
    Option.map_some, Option.getD_none]

end Sys2Proof.Machine

namespace Sys2Proof

/-- The words of a command, and nothing behind them, decode to it. -/
theorem decode_of_encode {i : Instr} {ws : List Word} (hwords : encode i = ws) :
    decode i.port ws = .command i ws.length := by
  have hdecode := decode_encode i []
  rwa [List.append_nil, hwords] at hdecode

end Sys2Proof

namespace Sys2Proof.Proofs

open Sys2Proof.Machine

/-- Settles O7: in the range the encoding counts the millionths rounded down, outside it there is none. -/
theorem f6EncodingRoundsDown : Obligations.F6EncodingRoundsDown := by
  refine ⟨f6_eq_millionths, encF6_f6, fun v hlow hhigh => ?_, fun v hout => encF6_of_not_mem hout⟩
  obtain ⟨w, hencode, hfloor⟩ := encF6_of_mem hlow hhigh
  exact ⟨w, hencode, f6_bounds_of_floor hfloor⟩

/-- The write of `pwm_boost_max` that R86 works out. -/
def workedWrite : Instr := .cfgwr 5 0x713FB300

/-- The `TICK` with a frame and a gyro sample that R86 works out. -/
def workedTick : Instr := .tick 1000000 (some ⟨7, ⟨0, 0, 0, 20000, 0, 0, 0⟩⟩) (some ⟨0, 0, 0xFFE91CA0⟩)

/-- Settles O4: each list of words is what the encoder gives, so it decodes to its command; the two assembler lines
parse to the commands of those words. -/
theorem workedEncodingsDecode : Obligations.WorkedEncodingsDecode := by
  refine ⟨decode_of_encode (i := workedWrite) rfl, ?_, decode_of_encode (i := .cfgwr 1 0x00001964) rfl, rfl,
    decode_of_encode (i := .cfgwr 14 0x00002710) rfl, ?_, decode_of_encode (i := workedTick) rfl, ?_,
    decode_of_encode (i := .tick 20000 none (some ⟨0, 0, 0⟩)) rfl,
    decode_of_encode (i := .init) rfl, decode_of_encode (i := .disable) rfl,
    decode_of_encode (i := .cfgbegin) rfl, decode_of_encode (i := .cfgend) rfl, rfl, ?_, ?_⟩
  · exact (f6_of_toInt (n := 1900000000) rfl).trans (by norm_num)
  · exact (f6_of_toInt (n := 10000) rfl).trans (by norm_num)
  · exact (f6_of_toInt (n := -1500000) rfl).trans (by norm_num)
  · exact assembleLine_of_command (i := workedWrite) (by decide) (by decide) (by decide +kernel)
  · exact assembleLine_of_command (i := workedTick) (by decide) (by decide) (by decide +kernel)

end Sys2Proof.Proofs

/-! PROOFS. The commands out of their turn, and `DISABLE` in its turn, each said once (spec R90, R95 to R98, R187). -/

namespace Sys2Proof.Machine

variable {s : State}

theorem exec_init_of_running (hen : s.en = true) : exec .init s = .next s.refuseSeq := if_pos hen

theorem exec_disable_of_stopped (hen : s.en = false) : exec .disable s = .next s.refuseSeq := if_pos hen

theorem exec_disable_of_running (hen : s.en = true) : exec .disable s = .next (shutdown causeDisable s) :=
  if_neg (by simp [hen])

theorem exec_cfgbegin_of_open (hbusy : s.cfgBusy = true) : exec .cfgbegin s = .next s.refuseSeq := if_pos hbusy

theorem exec_cfgwr_of_closed (hbusy : s.cfgBusy = false) (idx : BitVec 5) (value : Word) :
    exec (.cfgwr idx value) s = .next s.refuseSeq := if_pos hbusy

theorem exec_cfgend_of_closed (hbusy : s.cfgBusy = false) : exec .cfgend s = .next s.refuseSeq := if_pos hbusy

/-- What a snapshot never writes, of what `INIT` goes on to use. -/
theorem State.snapshot_frame (s : State) : s.snapshot.rounding = s.rounding ∧ s.snapshot.trace = s.trace := by
  rw [s.snapshot_eq]
  exact ⟨rfl, rfl⟩

/-- A published bank is taken exactly if it is valid (R55). -/
theorem State.snapshot_active_of_published (hclosed : s.cfgBusy = false) (hdirty : s.cfgDirty = true) :
    s.snapshot.active = if cfgValid s.shadow then s.shadow else s.active := by
  cases hvalid : cfgValid s.shadow with
  | true =>
    rw [(State.snapshot_of_valid hclosed hdirty hvalid).1]
    rfl
  | false =>
    rw [(State.snapshot_of_invalid hclosed hdirty hvalid).1]
    rfl

end Sys2Proof.Machine

namespace Sys2Proof.Proofs

open Sys2Proof.Machine

/-- Settles O12. -/
theorem cfgbeginOpensTheBracket : Obligations.CfgbeginOpensTheBracket :=
  ⟨rfl, fun _ => ⟨exec_cfgbegin_of_closed, exec_cfgbegin_of_open, fun hbusy =>
    (State.snapshot_of_nothing (.inl hbusy)).1⟩⟩

/-- Settles O13: an accepted write is `writeShadow`, and `Bank.read_write` gives every word after it. -/
theorem cfgwrWritesOneShadowWord : Obligations.CfgwrWritesOneShadowWord := by
  intro s idx value
  refine ⟨fun hbusy => ⟨_, exec_cfgwr_of_open hbusy idx value, rfl, fun j => ?_⟩,
    fun hbusy => exec_cfgwr_of_closed hbusy idx value⟩
  have hindex : idx.toFin = j ↔ j.val = idx.toNat := Fin.ext_iff.trans eq_comm
  rw [State.writeShadow_shadow, Bank.read_write]
  exact if_congr hindex rfl rfl

/-- Settles O14: `CFGEND` leaves a published bank behind a closed bracket, which the next snapshot takes if it can. -/
theorem cfgendOffersTheShadowBank : Obligations.CfgendOffersTheShadowBank :=
  ⟨rfl, fun _ => ⟨fun hbusy => ⟨_, exec_cfgend_of_open hbusy, rfl, State.snapshot_active_of_published rfl rfl⟩,
    exec_cfgend_of_closed⟩⟩

/-- Settles O21: a stopped `INIT` ends as the bank in force is valid or not, and `startEngine_eq` is the state it
starts in. -/
theorem initStartsTheEngine : Obligations.InitStartsTheEngine := by
  refine ⟨rfl, fun s => ⟨exec_init_of_running, fun hen hinvalid => ?_, fun hen hvalid => ?_⟩⟩
  · rw [exec_init_of_stopped hen, if_neg (by simp [hinvalid])]
    rfl
  · obtain ⟨hround, htrace⟩ := s.snapshot_frame
    rw [exec_init_of_stopped hen, if_pos hvalid, startEngine_eq, ← hround, ← htrace]
    rfl

/-- Settles O22: an accepted `DISABLE` is a shutdown with cause 4. -/
theorem disableShutsTheEngineDown : Obligations.DisableShutsTheEngineDown := by
  refine ⟨rfl, fun s => ⟨exec_disable_of_stopped, fun hen => ?_⟩⟩
  rw [exec_disable_of_running hen, shutdown_eq]
  rfl

end Sys2Proof.Proofs

/-! PROOFS. A `TICK` as a whole (spec R91 to R94, R126 to R128, R164, R176): S1 keeps the engine running and the trace as
it was, or ends the tick with a fatal stop; the stages after it are one update. -/

namespace Sys2Proof.Machine

open Sys2Proof.Safety

variable {s : State}

/-! ## How S1 ends -/

/-- Failsafe entry keeps the engine running and emits nothing, or is a fatal stop (R126, R127). -/
theorem enterFailsafe_ending (c : BitVec 4) (s : State) :
    let t := enterFailsafe c s
    (t.en = s.en ∧ t.trace = s.trace) ∨
    (t.en = false ∧ t.ctl = .await ∧ s.active.failsafeFatal = true ∧
      t.trace = s.trace ++ [.write t.cur t.cur6, .drvDisable]) := by
  rcases enterFailsafe_cases s c with ⟨_, h⟩ | ⟨hfatal, h⟩ <;> rw [h]
  · exact .inl ⟨rfl, rfl⟩
  · rw [shutdown_eq]
    exact .inr ⟨rfl, rfl, hfatal, rfl⟩

/-- Receiving a frame and counting the gyro stops nothing and emits nothing. -/
theorem beforeSupervise_frame (now : BitVec 64) (rx : Option Rx) (v : Bool) (s : State) :
    let u := beforeSupervise now rx v s
    u.en = s.en ∧ u.active = s.active ∧ u.trace = s.trace := by
  rw [beforeSupervise_eq]
  exact ⟨rfl, rfl, rfl⟩

/-- S1 keeps the engine running and emits nothing, or it ends in a fatal stop. -/
theorem stageLive_ending (now : BitVec 64) (rx : Option Rx) (v : Bool) (s : State) :
    let t := stageLive now rx v s
    (t.en = s.en ∧ t.trace = s.trace) ∨
    (t.en = false ∧ t.ctl = .await ∧ s.active.failsafeFatal = true ∧
      t.trace = s.trace ++ [.write t.cur t.cur6, .drvDisable]) := by
  obtain ⟨hen, hactive, htrace⟩ := beforeSupervise_frame now rx v s
  have hentry := fun c => enterFailsafe_ending c (beforeSupervise now rx v s)
  rw [hen, hactive, htrace] at hentry
  rcases stageLive_cases s now rx v with ⟨_, h⟩ | ⟨_, _, _, h⟩ | ⟨_, _, h⟩ | ⟨_, _, _, h⟩ <;> rw [h]
  · exact .inl ⟨hen, htrace⟩
  · exact .inl ⟨hen, htrace⟩
  · exact hentry 1
  · exact hentry 2

theorem stageLive_rounding (now : BitVec 64) (rx : Option Rx) (v : Bool) (s : State) :
    (stageLive now rx v s).rounding = s.rounding := by
  rw [stageLive_eq]

/-- What S1 finds: the engine as it was, the bank in force, and `SetFreq` emitted where the frequency changed. -/
theorem stageSnap_frame (s : State) :
    (stageSnap s).en = s.en ∧ (stageSnap s).active = bankInForce s ∧
    (stageSnap s).trace = s.trace ++
      (if s.snapshotTakes = true ∧ (bankInForce s).pwmFrequency ≠ s.active.pwmFrequency
        then [Event.setFreq (bankInForce s).pwmFrequency] else []) := by
  have hen : s.snapshot.en = s.en := by rw [s.snapshot_eq]
  rw [stageSnap_eq]
  exact ⟨hen, rfl, rfl⟩

theorem afterLive_rounding (now : BitVec 64) (rx : Option Rx) (gyro : Option GyroWords) (s : State) :
    (afterLive now rx gyro s).rounding = s.rounding := by
  rw [afterLive, stageLive_rounding, stageSnap_rounding]

/-- An engine that is Armed after S1 has not been stopped there: a fatal stop leaves AwaitingFirstContact. -/
theorem afterLive_en_of_armed {now : BitVec 64} {rx : Option Rx} {gyro : Option GyroWords} (hen : s.en = true)
    (harmed : (afterLive now rx gyro s).ctl = .armed) : (afterLive now rx gyro s).en = true := by
  rcases stageLive_ending now rx gyro.isSome (stageSnap s) with ⟨hkept, _⟩ | ⟨_, hawait, _, _⟩
  · exact (hkept.trans (stageSnap_frame s).1).trans hen
  · cases harmed.symm.trans hawait

/-- A tick that S1 has not ended goes on with the stages after it. -/
theorem exec_tick_of_live {now : BitVec 64} {rx : Option Rx} {gyro : Option GyroWords} (hen : s.en = true)
    (hlive : (afterLive now rx gyro s).en = true) :
    exec (.tick now rx gyro) s = .next (stagesAfterLive (gyro.map gyroRates) (afterLive now rx gyro s)) := by
  rw [exec_tick_of_running hen, runTick, Option.isSome_map]
  exact congrArg Host.Outcome.next (if_pos hlive)

/-! ## The stages after S1 -/

theorem updateHold_stageLed (s : State) : updateHold (stageLed s) = stageLed (updateHold s) := by
  have hzero : (if holdDetected s.active s.latest ≠ s.inHold then (stageLed s).zeroStab else stageLed s) =
      stageLed (if holdDetected s.active s.latest ≠ s.inHold then s.zeroStab else s) := by
    rw [apply_ite stageLed]
    rfl
  exact congrArg (fun u : State => { u with inHold := holdDetected s.active s.latest }) hzero

/-- The stabilizer reads nothing that the LED stage writes. -/
theorem stageStab_stageLed (gyro : Option (Axes ℚ)) (s : State) :
    stageStab gyro (stageLed s) = (stageStab gyro s).map stageLed id := by
  unfold stageStab
  rw [stageLed_active]
  split
  · unfold stabPidHold
    rw [updateHold_stageLed]
    cases gyro <;> rfl
  · cases gyro <;> rfl

/-- S3 to S5 on the Armed path, behind the LED stage: the stabilizer's registers, and targets from the bank and the
frame that it has left alone. -/
theorem stageTargets_stageLed_of_armed (gyro : Option (Axes ℚ)) (harmed : s.ctl = .armed) :
    stageTargets gyro (stageLed s) =
      ({ stageLed s with
          integ := (stageStab gyro s).1.integ, eprev := (stageStab gyro s).1.eprev
          inHold := (stageStab gyro s).1.inHold },
        combine s.active (stageMix s.active s.latest) (stageStab gyro s).2) := by
  rw [stageTargets, stageLed_ctl, if_pos harmed, stageStab_stageLed]
  simp only [Prod.map_fst, Prod.map_snd, id]
  rw [stageStab_eq]
  rfl

/-- The stages after S1, with the registers and the targets that S3 to S5 give. -/
theorem stagesAfterLive_of_targets {gyro : Option (Axes ℚ)} {integ eprev : Axes ℚ} {inHold : Bool} {tgt : Six ℚ}
    (h : stageTargets gyro (stageLed s) =
      ({ stageLed s with integ := integ, eprev := eprev, inHold := inHold }, tgt)) :
    stagesAfterLive gyro s =
      let cur := Six.ofFn fun i => shapeChannel s.rounding s.active i (s.cur.get i) (tgt.get i)
      { s with
        ledOn := (stageLed s).ledOn, prevBtn := (stageLed s).prevBtn, cur6 := (stageLed s).cur6
        integ := integ, eprev := eprev, inHold := inHold, cur := cur
        trace := s.trace ++ [.write cur (stageLed s).cur6] } := by
  rw [stagesAfterLive, h]
  rfl

end Sys2Proof.Machine

namespace Sys2Proof.Proofs

open Sys2Proof.Machine Sys2Proof.Safety

/-- Settles O23: S0 emits the `SetFreq`, S1 nothing unless it stops the engine, and the stages after it one `Write`. -/
theorem runningTickCompletesWithOneWrite : Obligations.RunningTickCompletesWithOneWrite := by
  intro s now rx gyro
  refine ⟨fun hen => exec_tick_of_stopped hen now rx gyro, fun hen =>
    ⟨_, _, exec_tick_of_running hen now rx gyro, rfl, (runTick_banks now rx _ s).1, ?_⟩⟩
  obtain ⟨hsnapEn, hsnapActive, hsnapTrace⟩ := stageSnap_frame s
  have hending := stageLive_ending now rx (gyro.map gyroRates).isSome (stageSnap s)
  rw [hsnapEn, hsnapActive, hen, hsnapTrace] at hending
  rcases runTick_cases s now rx (gyro.map gyroRates) with ⟨hrun, h⟩ | ⟨hstop, h⟩ <;> rw [h]
  · rcases hending with ⟨_, htrace⟩ | ⟨hoff, _⟩
    · rw [stagesAfterLive_eq, htrace]
      exact .inl ⟨hrun, rfl⟩
    · cases hrun.symm.trans hoff
  · rcases hending with ⟨hon, _⟩ | ⟨hoff, _, hfatal, htrace⟩
    · cases hon.symm.trans hstop
    · exact .inr ⟨hoff, hfatal, htrace⟩

/-- Settles O24: S1 has left the engine running, and the shaper takes the combined targets. -/
theorem armedTickRunsTheFullPipeline : Obligations.ArmedTickRunsTheFullPipeline := by
  intro s now rx gyro hen harmed
  have hlive := afterLive_en_of_armed hen harmed
  have htargets := stageTargets_stageLed_of_armed (gyro.map gyroRates) harmed
  rw [exec_tick_of_live hen hlive, stagesAfterLive_of_targets htargets, ← afterLive_rounding now rx gyro s]
  simp only [combine, Six.get_ofFn]
  rfl

/-- Settles O25: off the Armed path S3 to S5 leave the state alone, and the shaper takes `pwm_min`. -/
theorem unarmedTickDrivesToMinimum : Obligations.UnarmedTickDrivesToMinimum := by
  intro s now rx gyro hen hlive hunarmed
  have hled : (stageLed (afterLive now rx gyro s)).ctl ≠ .armed := hunarmed
  have htargets := stageTargets_of_not_armed (gyro.map gyroRates) hled
  rw [exec_tick_of_live hen hlive, stagesAfterLive_of_targets htargets, ← afterLive_rounding now rx gyro s]
  simp only [safeTargets, Six.get_const]
  rfl

/-- Settles O26: a stopped engine refuses the tick, and `runTick_eq` says what a running one may write. -/
theorem tickLeavesConfigurationInputsAlone : Obligations.TickLeavesConfigurationInputsAlone := by
  intro s now rx gyro
  rcases Bool.eq_false_or_eq_true s.en with hrun | hstop
  · refine ⟨_, exec_tick_of_running hrun now rx gyro, ?_⟩
    rw [runTick_eq]
    exact ⟨rfl, rfl, rfl, rfl, rfl, rfl, rfl, by simp [hrun], fun _ => ⟨rfl, rfl⟩,
      fun hstop => nomatch hrun.symm.trans hstop⟩
  · exact ⟨_, exec_tick_of_stopped hstop now rx gyro, rfl, rfl, rfl, rfl, rfl, rfl, rfl, by simp [hstop],
      fun hrun => (nomatch hstop.symm.trans hrun), fun _ => ⟨rfl, rfl, rfl⟩⟩

end Sys2Proof.Proofs

/-! PROOFS. The frame decoder (spec R111 to R117): one bad token leaves the decoder without a frame, and good tokens write
their values, each into its own field. -/

namespace Sys2Proof.Machine

open Sys2Proof.Safety

/-! ## One token in its field -/

/-- The value that token `t` gives field `k`; none where the token is bad. -/
def fieldValue (k : ℕ) (t : List Char) : Option ℤ := (tokenValue (trim t)).filter (fieldAdmits k)

theorem fieldValue_eq_some_iff (k : ℕ) (t : List Char) (v : ℤ) :
    fieldValue k t = some v ↔ (∃ mid, trimsTo t mid ∧ tokenMeans mid v) ∧ fitsField k v := by
  rw [fieldValue, Option.filter_eq_some_iff, fieldAdmits_iff, tokenValue_iff]
  refine and_congr_left fun _ => ⟨fun h => ⟨trim t, trimsTo_trim t, h⟩, ?_⟩
  rintro ⟨mid, hmid, h⟩
  exact eq_trim hmid ▸ h

theorem fieldValue_eq_none_iff (k : ℕ) (t : List Char) : fieldValue k t = none ↔ badToken k t := by
  simp only [Option.eq_none_iff_forall_ne_some, ne_eq, fieldValue_eq_some_iff]
  constructor
  · exact fun h => ⟨trim t, trimsTo_trim t, fun v hv hfit => h v ⟨⟨trim t, trimsTo_trim t, hv⟩, hfit⟩⟩
  · rintro ⟨mid, hmid, h⟩ v ⟨⟨mid', hmid', hv⟩, hfit⟩
    exact h v ((eq_trim hmid).trans (eq_trim hmid').symm ▸ hv) hfit

theorem decodeTokens_cons (k : ℕ) (t : List Char) (rest : List (List Char)) (f : GamepadFrame) :
    decodeTokens k (t :: rest) f = (fieldValue k t).bind fun v => decodeTokens (k + 1) rest (setField k v f) := by
  rw [decodeTokens, fieldValue]
  cases tokenValue (trim t) with
  | none => rfl
  | some v => cases hv : fieldAdmits k v <;> simp [Option.filter, hv]

/-- On any split of a line the decoder reads the first seven tokens (R111). -/
theorem decodeLine_of_isSplit {line : String} {toks : List (List Char)} (h : isSplit line.toList toks) :
    decodeLine line = (decodeTokens 0 (toks.take 7) GamepadFrame.neutral).getD GamepadFrame.neutral := by
  rw [eq_splitCommas h]
  rfl

/-! ## A bad token -/

/-- Wherever the bad token stands, and whatever was written before it, there is no frame (R113). -/
theorem decodeTokens_of_bad {toks : List (List Char)} {i : ℕ} {t : List Char} (ht : toks[i]? = some t) (k : ℕ)
    (hbad : badToken (k + i) t) (f : GamepadFrame) : decodeTokens k toks f = none := by
  induction toks generalizing i k f with
  | nil => cases ht
  | cons u rest ih =>
    rw [decodeTokens_cons]
    cases i with
    | zero =>
      obtain rfl : u = t := by simpa using ht
      rw [(fieldValue_eq_none_iff k u).mpr hbad, Option.bind_none]
    | succ i =>
      have hrest (v : ℤ) : decodeTokens (k + 1) rest (setField k v f) = none :=
        ih ht (k + 1) (by rwa [Nat.add_right_comm, Nat.add_assoc]) _
      simp only [hrest, Option.bind_fun_none]

theorem decodeLine_of_bad {line : String} {toks : List (List Char)} {k : ℕ} {t : List Char}
    (hsplit : isSplit line.toList toks) (hk : k < 7) (ht : toks[k]? = some t) (hbad : badToken k t) :
    decodeLine line = GamepadFrame.neutral := by
  have htake : (toks.take 7)[k]? = some t := by rwa [List.getElem?_take_of_lt hk]
  rw [decodeLine_of_isSplit hsplit, decodeTokens_of_bad htake 0 (by rwa [Nat.zero_add]), Option.getD_none]

/-! ## Good tokens -/

/-- Good tokens are those whose values in their fields are `vs`. -/
theorem goodTokens_iff (toks : List (List Char)) (vs : List ℤ) :
    goodTokens toks vs ↔ toks.mapIdx fieldValue = vs.map some := by
  simp only [goodTokens, ← fieldValue_eq_some_iff]
  constructor
  · rintro ⟨hlen, h⟩
    refine List.ext_getElem (by simpa using hlen) fun k hk hk' => ?_
    rw [List.length_mapIdx] at hk
    rw [List.length_map] at hk'
    simpa using h k toks[k] vs[k] (List.getElem?_eq_getElem hk) (List.getElem?_eq_getElem hk')
  · intro h
    refine ⟨by simpa using congrArg List.length h, fun k t v ht hv => ?_⟩
    simpa [ht, hv] using congrArg (·[k]?) h

/-- A line of tokens none of which is bad has values. -/
theorem exists_goodTokens {toks : List (List Char)} (h : ∀ k t, toks[k]? = some t → ¬ badToken k t) :
    ∃ vs, goodTokens toks vs := by
  refine ⟨toks.mapIdx fun k t => (fieldValue k t).getD 0, (goodTokens_iff _ _).mpr ?_⟩
  refine List.ext_getElem (by simp) fun k hk _ => ?_
  rw [List.length_mapIdx] at hk
  have hsome := h k toks[k] (List.getElem?_eq_getElem hk)
  rw [← fieldValue_eq_none_iff, ← ne_eq, Option.ne_none_iff_exists'] at hsome
  obtain ⟨v, hv⟩ := hsome
  simp [hv]

/-- The values from field `k` on, written into `f`. -/
def fillFields (k : ℕ) (vs : List ℤ) (f : GamepadFrame) : GamepadFrame :=
  match vs with
  | [] => f
  | v :: rest => fillFields (k + 1) rest (setField k v f)

theorem decodeTokens_of_values {toks : List (List Char)} {vs : List ℤ} (k : ℕ)
    (h : toks.mapIdx (fun i => fieldValue (k + i)) = vs.map some) (f : GamepadFrame) :
    decodeTokens k toks f = some (fillFields k vs f) := by
  induction toks generalizing k vs f with
  | nil =>
    obtain rfl : vs = [] := by simpa using h.symm
    rfl
  | cons t rest ih =>
    cases vs with
    | nil => simp at h
    | cons v vs =>
      rw [List.mapIdx_cons, List.map_cons, List.cons.injEq] at h
      obtain ⟨hv, hrest⟩ := h
      rw [decodeTokens_cons, show fieldValue k t = some v from hv, Option.bind_some, fillFields]
      refine ih (k + 1) ?_ _
      simpa only [Nat.add_assoc, Nat.add_comm 1] using hrest

theorem decodeLine_of_good {line : String} {toks : List (List Char)} {vs : List ℤ}
    (hsplit : isSplit line.toList toks) (hgood : goodTokens (toks.take 7) vs) :
    decodeLine line = fillFields 0 vs GamepadFrame.neutral := by
  have hvalues := (goodTokens_iff _ _).mp hgood
  rw [decodeLine_of_isSplit hsplit, decodeTokens_of_values 0 (by simpa only [Nat.zero_add] using hvalues),
    Option.getD_some]

/-! ## The fields of the frame by number -/

/-- Field `k` of a frame, in the order of the line (R111). -/
def frameField (f : GamepadFrame) (k : Fin 7) : BitVec 16 :=
  match k with
  | 0 => f.leftX
  | 1 => f.leftY
  | 2 => f.rightX
  | 3 => f.rightY
  | 4 => f.lt
  | 5 => f.rt
  | 6 => f.buttons

theorem frameField_neutral (k : Fin 7) : frameField GamepadFrame.neutral k = 0 := by
  fin_cases k <;> rfl

theorem frameField_setField (j k : Fin 7) (v : ℤ) (f : GamepadFrame) :
    frameField (setField k v f) j = if j = k then BitVec.ofInt 16 v else frameField f j := by
  fin_cases k <;> fin_cases j <;> rfl

theorem frameField_setField_same (k : Fin 7) (v : ℤ) (f : GamepadFrame) :
    frameField (setField k v f) k = BitVec.ofInt 16 v := by
  rw [frameField_setField, if_pos rfl]

theorem frameField_setField_of_ne {j k : Fin 7} (h : j ≠ k) (v : ℤ) (f : GamepadFrame) :
    frameField (setField k v f) j = frameField f j := by
  rw [frameField_setField, if_neg h]

/-- The fields before the first value stay. -/
theorem frameField_fillFields_of_lt {j : Fin 7} {k : ℕ} {vs : List ℤ} (hj : j.val < k) (hlen : k + vs.length ≤ 7)
    (f : GamepadFrame) : frameField (fillFields k vs f) j = frameField f j := by
  induction vs generalizing k f with
  | nil => rfl
  | cons v rest ih =>
    rw [List.length_cons] at hlen
    have hk : k < 7 := by omega
    have hne : j ≠ ⟨k, hk⟩ := Fin.ne_of_lt hj
    rw [fillFields, ih (by omega) (by omega), frameField_setField_of_ne hne]

/-- The `i`-th value stands in the `i`-th field; the fields that the values do not reach stay. -/
theorem frameField_fillFields {j : Fin 7} {k i : ℕ} {vs : List ℤ} (hj : j.val = k + i) (hlen : k + vs.length ≤ 7)
    (f : GamepadFrame) :
    frameField (fillFields k vs f) j = (vs[i]?).elim (frameField f j) (BitVec.ofInt 16) := by
  induction vs generalizing k i f with
  | nil => rfl
  | cons v rest ih =>
    rw [List.length_cons] at hlen
    have hk : k < 7 := by omega
    rw [fillFields]
    cases i with
    | zero =>
      obtain rfl : j = ⟨k, hk⟩ := Fin.ext hj
      rw [frameField_fillFields_of_lt (Nat.lt_succ_self k) (by omega), frameField_setField_same ⟨k, hk⟩]
      rfl
    | succ i =>
      have hne : j ≠ ⟨k, hk⟩ := Fin.ne_of_gt (show k < j.val by omega)
      rw [ih (show j.val = k + 1 + i by omega) (by omega), frameField_setField_of_ne hne, List.getElem?_cons_succ]

/-- Every field of the frame of good tokens holds its value as 16 bits, a missing one 0 (R112, R114). -/
theorem frameField_of_good {toks : List (List Char)} {vs : List ℤ} (hgood : goodTokens (toks.take 7) vs) (j : Fin 7) :
    frameField (fillFields 0 vs GamepadFrame.neutral) j = BitVec.ofInt 16 (vs[j.val]?.getD 0) := by
  have hlen : vs.length ≤ 7 := hgood.1 ▸ List.length_take_le 7 toks
  rw [frameField_fillFields (Nat.zero_add j.val).symm (by omega), frameField_neutral]
  cases vs[j.val]? with
  | none => rfl
  | some v => rfl

/-- The values of good tokens fit their fields, the 0 of a missing one too. -/
theorem fitsField_of_good {toks : List (List Char)} {vs : List ℤ} (h : goodTokens toks vs) (k : ℕ) :
    fitsField k (vs[k]?.getD 0) := by
  obtain ⟨hlen, hgood⟩ := h
  cases hv : vs[k]? with
  | none => exact ⟨fun _ => by decide, fun _ => by decide⟩
  | some v =>
    have hk : k < toks.length := hlen ▸ (List.getElem?_eq_some_iff.mp hv).1
    exact (hgood k toks[k] v (List.getElem?_eq_getElem hk) hv).2

/-! ## The words of the fields as numbers -/

theorem toInt_ofInt_of_stick {k : ℕ} {v : ℤ} (hk : k ≤ 3) (h : fitsField k v) : (BitVec.ofInt 16 v).toInt = v := by
  obtain ⟨hlow, hhigh⟩ := h.1 hk
  exact BitVec.toInt_ofInt_eq_self (by decide) hlow (by omega)

theorem toNat_ofInt_eq_emod (v : ℤ) : ((BitVec.ofInt 16 v).toNat : ℤ) = v % 2 ^ 16 := by
  rw [BitVec.toNat_ofInt]
  exact Int.toNat_of_nonneg (Int.emod_nonneg v (by decide))

theorem toNat_ofInt_of_trigger {k : ℕ} {v : ℤ} (hk : k = 4 ∨ k = 5) (h : fitsField k v) :
    ((BitVec.ofInt 16 v).toNat : ℤ) = v := by
  obtain ⟨hlow, hhigh⟩ := h.2 hk
  rw [toNat_ofInt_eq_emod, Int.emod_eq_of_lt hlow (by omega)]

end Sys2Proof.Machine

namespace Sys2Proof.Proofs

open Sys2Proof.Machine Sys2Proof.Safety

/-- Settles O59: the bad token ends the decoding without a frame, wherever it stands. -/
theorem badTokenGivesTheNeutralFrame : Obligations.BadTokenGivesTheNeutralFrame := by
  intro line toks k t hsplit hk ht hbad
  have hneutral := decodeLine_of_bad hsplit hk ht hbad
  exact ⟨hneutral, fun now src gyro => by rw [tickOfDatagram, hneutral]⟩

/-- Settles O60: good tokens fill their fields one by one, and tokens none of which is bad have values. -/
theorem goodTokensFillTheFrame : Obligations.GoodTokensFillTheFrame := by
  constructor
  · intro line toks vs hsplit hgood f v
    have hf : f = fillFields 0 vs GamepadFrame.neutral := decodeLine_of_good hsplit hgood
    have hfield (j : Fin 7) : frameField f j = BitVec.ofInt 16 (v j) := hf ▸ frameField_of_good hgood j
    have hfits (k : ℕ) : fitsField k (v k) := fitsField_of_good hgood k
    have hstick (j : Fin 7) (hj : j.val ≤ 3) : (frameField f j).toInt = v j := by
      rw [hfield, toInt_ofInt_of_stick hj (hfits j)]
    have htrigger (j : Fin 7) (hj : j.val = 4 ∨ j.val = 5) : ((frameField f j).toNat : ℤ) = v j := by
      rw [hfield, toNat_ofInt_of_trigger hj (hfits j)]
    have hbuttons : ((frameField f 6).toNat : ℤ) = v 6 % 2 ^ 16 := by
      rw [hfield, toNat_ofInt_eq_emod]
      rfl
    exact ⟨hstick 0 (by decide), hstick 1 (by decide), hstick 2 (by decide), hstick 3 (by decide),
      htrigger 4 (by decide), htrigger 5 (by decide), hbuttons⟩
  · intro line
    refine ⟨splitCommas line.toList, isSplit_splitCommas _, or_iff_not_imp_right.mpr fun hnone => ?_⟩
    refine exists_goodTokens fun k t ht hbad => hnone ?_
    rw [List.getElem?_take, Option.ite_none_right_eq_some] at ht
    obtain ⟨hk, ht⟩ := ht
    exact ⟨k, t, hk, ht, hbad⟩

end Sys2Proof.Proofs

/-! PROOFS. The liveness supervisor (spec R120 to R131, R190 to R193): what each tick finds when it tests its two
conditions, the cause of the Failsafe entry it makes, and the three ways in which it then ends. -/

namespace Sys2Proof.Machine

open Sys2Proof.Safety

variable {s u : State}

/-! ## The conditions -/

theorem accepted_some_iff (P : Bank) (r : Rx) :
    accepted P (some r) = true ↔ P.peerAny = true ∨ r.src = P.peerAddr := by
  simp [accepted, allowListed]

theorem cast_elapsed (now last : BitVec 64) :
    (elapsed now last : ℚ) = if last.toNat ≤ now.toNat then ((now.toNat - last.toNat : ℕ) : ℚ) else 0 := by
  rw [elapsed, Nat.cast_ite, Nat.cast_zero]

/-- The time since the last accepted frame, where a backward clock counts as none (R124). -/
theorem cast_elapsed_eq_max (now last : BitVec 64) :
    (elapsed now last : ℚ) = max 0 ((now.toNat : ℚ) - last.toNat) := by
  rw [cast_elapsed]
  split
  · next hle =>
    have hcast : (last.toNat : ℚ) ≤ now.toNat := Nat.cast_le.mpr hle
    rw [Nat.cast_sub hle, max_eq_right (sub_nonneg.mpr hcast)]
  · next hback =>
    have hcast : (now.toNat : ℚ) ≤ last.toNat := Nat.cast_le.mpr (le_of_not_ge hback)
    rw [max_eq_left (sub_nonpos.mpr hcast)]

@[simp] theorem elapsed_self (now : BitVec 64) : elapsed now now = 0 := by simp [elapsed]

/-- A timeout of a valid bank is never negative, in microseconds. -/
theorem cfgValid_timeout_us {P : Bank} (hvalid : cfgValid P = true) : 0 ≤ P.connectionTimeoutSeconds * 10 ^ 6 := by
  obtain ⟨htimeout, _⟩ := cfgValid_times hvalid
  positivity

/-- The cause of the Failsafe entry that the supervisor makes, if it makes one: the timeout comes first (R130). -/
def failsafeCause (now : BitVec 64) (s : State) : Option (BitVec 4) :=
  if s.ctl = .armed then
    if linkTimedOut s.active now s.lastSeen then some causeLinkTimeout
    else if gyroFailed s.active s.gyroBad then some causeGyroFail
    else none
  else none

theorem supervise_of_none {now : BitVec 64} (h : failsafeCause now s = none) : supervise now s = s := by
  unfold failsafeCause at h
  unfold supervise
  split_ifs at h ⊢ <;> rfl

theorem supervise_of_some {now : BitVec 64} {c : BitVec 4} (h : failsafeCause now s = some c) :
    supervise now s = enterFailsafe c s := by
  unfold failsafeCause at h
  unfold supervise
  split_ifs at h ⊢ <;> cases h <;> rfl

section Causes

variable {now : BitVec 64}

theorem failsafeCause_of_not_armed (hctl : s.ctl ≠ .armed) : failsafeCause now s = none := if_neg hctl

theorem failsafeCause_of_timeout (hctl : s.ctl = .armed) (htime : linkTimedOut s.active now s.lastSeen = true) :
    failsafeCause now s = some causeLinkTimeout := by
  rw [failsafeCause, if_pos hctl, if_pos htime]

theorem failsafeCause_of_gyro (hctl : s.ctl = .armed) (htime : ¬ linkTimedOut s.active now s.lastSeen = true)
    (hgyro : gyroFailed s.active s.gyroBad = true) : failsafeCause now s = some causeGyroFail := by
  rw [failsafeCause, if_pos hctl, if_neg htime, if_pos hgyro]

theorem failsafeCause_of_alive (htime : ¬ linkTimedOut s.active now s.lastSeen = true)
    (hgyro : ¬ gyroFailed s.active s.gyroBad = true) : failsafeCause now s = none := by
  rw [failsafeCause, if_neg htime, if_neg hgyro, ite_self]

/-- There is no third cause of a Failsafe entry (R126), and without a timeout there is one only. -/
theorem failsafeCause_eq_some {c : BitVec 4} (h : failsafeCause now s = some c) :
    (c = causeLinkTimeout ∧ linkTimedOut s.active now s.lastSeen = true) ∨ c = causeGyroFail := by
  unfold failsafeCause at h
  split_ifs at h with _ htime _ <;> cases h
  · exact .inl ⟨rfl, htime⟩
  · exact .inr rfl

end Causes

theorem enterFailsafe_of_default {c : BitVec 4} (hpolicy : s.active.failsafeFatal = false) :
    enterFailsafe c s = failsafeState c s := by
  rw [enterFailsafe, hpolicy]
  rfl

/-- The shutdown overwrites all that the shared part of the entry has written (R127). -/
theorem enterFailsafe_of_fatal {c : BitVec 4} (hpolicy : s.active.failsafeFatal = true) :
    enterFailsafe c s = shutdown (causeFatal + c) s := by
  rw [enterFailsafe, hpolicy]
  rfl

/-! ## What the supervisor finds on a tick -/

/-- The state in which a tick tests its two conditions: the snapshot made, the frame received, the gyro counted. -/
def received (now : BitVec 64) (rx : Option Rx) (gyro : Option GyroWords) (s : State) : State :=
  beforeSupervise now rx gyro.isSome (stageSnap s)

theorem bankInForce_of_not_taken (h : s.snapshotTakes = false) : bankInForce s = s.active := by
  unfold bankInForce
  rcases s.snapshot_cases with ⟨hs, _⟩ | ⟨_, _, _, htakes, _⟩ | ⟨_, _, _, _, hs⟩
  · rw [hs]
  · cases h.symm.trans htakes
  · rw [hs]

theorem stageSnap_trace_of_not_taken (h : s.snapshotTakes = false) : (stageSnap s).trace = s.trace := by
  rw [stageSnap_eq, h]
  exact List.append_nil _

section Received

variable (now : BitVec 64) (rx : Option Rx) (gyro : Option GyroWords) (s : State)

theorem afterLive_eq_supervise : afterLive now rx gyro s = supervise now (received now rx gyro s) := rfl

/-- The snapshot writes neither the supervisor's registers nor the outputs. -/
theorem stageSnap_eq_update : stageSnap s = { s with
    active := bankInForce s, cfgDirty := s.snapshot.cfgDirty, cfgErr := s.snapshot.cfgErr
    trace := (stageSnap s).trace } := by
  rw [stageSnap_eq]
  conv_lhs => rw [s.snapshot_eq]
  rfl

theorem received_eq : received now rx gyro s = { s with
    active := bankInForce s, cfgDirty := s.snapshot.cfgDirty, cfgErr := s.snapshot.cfgErr
    trace := (stageSnap s).trace
    lastSeen := if accepted (bankInForce s) rx then now else s.lastSeen
    latest := if accepted (bankInForce s) rx then (rx.map Rx.frame).getD s.latest else s.latest
    ctl := if accepted (bankInForce s) rx then .armed else s.ctl
    gyroBad := if gyro.isSome then 0 else min (s.gyroBad + 1) Config.gyroBadMax } := by
  rw [received, beforeSupervise_eq, stageSnap_eq_update]

@[simp] theorem received_active : (received now rx gyro s).active = bankInForce s := by rw [received_eq]
@[simp] theorem received_cur : (received now rx gyro s).cur = s.cur := by rw [received_eq]
@[simp] theorem received_cur6 : (received now rx gyro s).cur6 = s.cur6 := by rw [received_eq]
@[simp] theorem received_ledOn : (received now rx gyro s).ledOn = s.ledOn := by rw [received_eq]
@[simp] theorem received_en : (received now rx gyro s).en = s.en := by rw [received_eq]
@[simp] theorem received_cause : (received now rx gyro s).cause = s.cause := by rw [received_eq]
@[simp] theorem received_rounding : (received now rx gyro s).rounding = s.rounding := by rw [received_eq]
@[simp] theorem received_trace : (received now rx gyro s).trace = (stageSnap s).trace := by rw [received_eq]

@[simp] theorem received_gyroBad : (received now rx gyro s).gyroBad =
    if gyro.isSome then 0 else min (s.gyroBad + 1) (2 ^ 32 - 1) := by
  rw [received_eq]
  rfl

@[simp] theorem received_lastSeen : (received now rx gyro s).lastSeen =
    if accepted (bankInForce s) rx = true then now else s.lastSeen := by
  rw [received_eq]

@[simp] theorem received_ctl : (received now rx gyro s).ctl =
    if accepted (bankInForce s) rx = true then .armed else s.ctl := by
  rw [received_eq]

@[simp] theorem received_latest : (received now rx gyro s).latest =
    if accepted (bankInForce s) rx = true then (rx.map Rx.frame).getD s.latest else s.latest := by
  rw [received_eq]

end Received

section Conditions

variable {now : BitVec 64} {rx : Option Rx} {gyro : Option GyroWords}

theorem received_timedOut_iff :
    linkTimedOut (received now rx gyro s).active now (received now rx gyro s).lastSeen = true ↔
      (bankInForce s).connectionTimeoutSeconds * 10 ^ 6 <
        (elapsed now (if accepted (bankInForce s) rx = true then now else s.lastSeen) : ℚ) := by
  rw [linkTimedOut_iff, received_active, received_lastSeen]

theorem received_gyroFailed_iff :
    gyroFailed (received now rx gyro s).active (received now rx gyro s).gyroBad = true ↔
      (bankInForce s).gyroFailLimit < ((if gyro.isSome then 0 else min (s.gyroBad + 1) (2 ^ 32 - 1) : ℕ) : ℤ) := by
  rw [gyroFailed_iff, received_active, received_gyroBad]

theorem received_armed (h : accepted (bankInForce s) rx = true ∨ s.ctl = .armed) :
    (received now rx gyro s).ctl = .armed := by
  rw [received_ctl]
  rcases h with h | h
  · exact if_pos h
  · rw [h, ite_self]

/-- The tick of an accepted frame does not time out: no time has passed since that frame (R124). -/
theorem received_not_timedOut_of_accepted (hvalid : cfgValid (bankInForce s) = true)
    (hacc : accepted (bankInForce s) rx = true) :
    ¬ linkTimedOut (received now rx gyro s).active now (received now rx gyro s).lastSeen = true := by
  rw [received_timedOut_iff, if_pos hacc, elapsed_self, Nat.cast_zero, not_lt]
  exact cfgValid_timeout_us hvalid

/-- Without an accepted frame the session is as the tick found it. -/
theorem received_sessionOf (hno : accepted (bankInForce s) rx = false) :
    sessionOf (received now rx gyro s) = sessionOf s := by
  rw [received_eq, hno]
  rfl

end Conditions

/-! ## The ways a tick ends -/

section Endings

variable {now : BitVec 64} {rx : Option Rx} {gyro : Option GyroWords} {c : BitVec 4}

/-- A tick that S1 has ended with a fatal stop does nothing more (R127). -/
theorem exec_tick_of_stop (hen : s.en = true) (hstop : (afterLive now rx gyro s).en = false) :
    exec (.tick now rx gyro) s = .next (afterLive now rx gyro s) := by
  rw [exec_tick_of_running hen, runTick, Option.isSome_map]
  exact congrArg Host.Outcome.next (if_neg (Bool.eq_false_iff.mp hstop))

theorem exec_tick_of_no_entry (hen : s.en = true) (hnone : failsafeCause now (received now rx gyro s) = none) :
    exec (.tick now rx gyro) s =
      .next (stagesAfterLive (gyro.map gyroRates) (received now rx gyro s)) := by
  have hlive : afterLive now rx gyro s = received now rx gyro s := supervise_of_none hnone
  rw [exec_tick_of_live hen (by rw [hlive, received_en, hen]), hlive]

theorem exec_tick_of_entry (hen : s.en = true) (hsome : failsafeCause now (received now rx gyro s) = some c)
    (hpolicy : (bankInForce s).failsafeFatal = false) :
    exec (.tick now rx gyro) s =
      .next (stagesAfterLive (gyro.map gyroRates) (failsafeState c (received now rx gyro s))) := by
  have hlive : afterLive now rx gyro s = failsafeState c (received now rx gyro s) := by
    rw [afterLive_eq_supervise, supervise_of_some hsome, enterFailsafe_of_default (by rw [received_active, hpolicy])]
  rw [exec_tick_of_live hen (by rw [hlive, failsafeState_en, received_en, hen]), hlive]

theorem exec_tick_of_fatal_entry (hen : s.en = true) (hsome : failsafeCause now (received now rx gyro s) = some c)
    (hpolicy : (bankInForce s).failsafeFatal = true) :
    exec (.tick now rx gyro) s = .next (shutdown (causeFatal + c) (received now rx gyro s)) := by
  have hlive : afterLive now rx gyro s = shutdown (causeFatal + c) (received now rx gyro s) := by
    rw [afterLive_eq_supervise, supervise_of_some hsome, enterFailsafe_of_fatal (by rw [received_active, hpolicy])]
  rw [exec_tick_of_stop hen (by rw [hlive]; rfl), hlive]

/-- What a running tick can end in, of the control state and the gyro counter: whether it makes a Failsafe entry decides
between the state it has received, Failsafe and the fatal stop. -/
theorem exec_tick_endings (hen : s.en = true) (now : BitVec 64) (rx : Option Rx) (gyro : Option GyroWords) :
    let u := received now rx gyro s
    ∃ t, exec (.tick now rx gyro) s = .next t ∧
      (failsafeCause now u = none ∧ t.ctl = u.ctl ∧ t.en = true ∧ t.cause = s.cause ∧ t.gyroBad = u.gyroBad ∨
      ∃ c, failsafeCause now u = some c ∧
        (t.ctl = .failsafe ∧ t.en = true ∧ t.cause = c ∧ t.gyroBad = u.gyroBad ∨
          t.ctl = .await ∧ t.en = false ∧ t.cause = causeFatal + c ∧ t.gyroBad = 0)) := by
  intro u
  have hrun : u.en = true := (received_en now rx gyro s).trans hen
  cases hentry : failsafeCause now u with
  | none =>
    refine ⟨_, exec_tick_of_no_entry hen hentry, .inl ⟨rfl, ?_⟩⟩
    rw [stagesAfterLive_eq]
    exact ⟨rfl, hrun, received_cause now rx gyro s, rfl⟩
  | some c =>
    cases hpolicy : (bankInForce s).failsafeFatal with
    | false =>
      refine ⟨_, exec_tick_of_entry hen hentry hpolicy, .inr ⟨c, rfl, .inl ?_⟩⟩
      rw [stagesAfterLive_eq]
      exact ⟨rfl, hrun, rfl, rfl⟩
    | true => exact ⟨_, exec_tick_of_fatal_entry hen hentry hpolicy, .inr ⟨c, rfl, .inr ⟨rfl, rfl, rfl, rfl⟩⟩⟩

end Endings

/-! ## The stages after S1 on a safe state -/

/-- S2 has nothing to do on a block without a session whose LED is off. -/
theorem stageLed_of_quiet (hquiet : Quiet s) (hled : s.cur6 = s.active.ledOffUs) : stageLed s = s := by
  have hbutton : ledButton s.active s.latest = s.prevBtn := by
    rw [hquiet.latest, hquiet.prevBtn]
    exact neutral_button _
  have hon : ledAfter s.prevBtn s.prevBtn s.ledOn = s.ledOn := by
    rw [hquiet.prevBtn]
    rfl
  have hvalue : ledValue s.active s.ledOn = s.cur6 := by
    rw [hquiet.ledOn, hled]
    rfl
  rw [stageLed, hbutton, hon, hvalue]

/-- Off the Armed path a block without a session drives its thrusters to `pwm_min`, and this is all it does (R128). -/
theorem stagesAfterLive_of_quiet (gyro : Option (Axes ℚ)) (hctl : s.ctl ≠ .armed) (hquiet : Quiet s)
    (hled : s.cur6 = s.active.ledOffUs) :
    stagesAfterLive gyro s = stageWrite (stageShape (safeTargets s.active) s) := by
  rw [stagesAfterLive, stageLed_of_quiet hquiet hled, stageTargets_of_not_armed gyro hctl]

/-- A channel that is at its target stays there, in every mode of the shaper (R178). -/
theorem shapeChannel_of_eq {r : Rounding} {P : Bank} {v : ℚ} (hvalid : cfgValid P = true) (i : Fin 6)
    (hlow : P.pwmMin ≤ v) (hhigh : v ≤ P.pwmBoostMax) (hround : r.apply v = v) : shapeChannel r P i v v = v := by
  have hlimit : 0 ≤ rateLimit P := by
    obtain ⟨_, _, haccel, _⟩ := cfgValid_limits hvalid
    obtain ⟨_, hperiod⟩ := cfgValid_times hvalid
    exact mul_nonneg (Int.cast_nonneg haccel) hperiod.le
  have hdelta : limitedDelta P 0 = 0 := by
    rw [limitedDelta, clamp_of_mem (neg_nonpos.mpr hlimit) hlimit, ite_self]
  rw [shapeChannel, sub_self]
  simp only [hdelta, zero_mul, add_zero]
  rw [clamp_of_mem hlow hhigh, hround]

theorem stageShape_of_safe (hvalid : cfgValid s.active = true)
    (hround : s.rounding.apply s.active.pwmMin = s.active.pwmMin) (hsafe : SafeOutputs s) :
    stageShape (safeTargets s.active) s = s := by
  obtain ⟨hcur, _, _⟩ := hsafe
  have hkept : (stageShape (safeTargets s.active) s).cur = s.cur := Six.ext_get fun i => by
    rw [stageShape_cur, Six.get_ofFn, safeTargets, Six.get_const, hcur, hround]
    exact shapeChannel_of_eq hvalid i le_rfl (cfgValid_min_le_boost hvalid) hround
  exact congrArg (fun cur => { s with cur := cur }) hkept

/-- The safe outputs are a fixed point of the stages after S1 (R128, R178 (5)). -/
theorem stagesAfterLive_of_safe (gyro : Option (Axes ℚ)) (hctl : s.ctl ≠ .armed) (hvalid : cfgValid s.active = true)
    (hround : s.rounding.apply s.active.pwmMin = s.active.pwmMin) (hsafe : SafeOutputs s) (hquiet : Quiet s) :
    stagesAfterLive gyro s = stageWrite s := by
  rw [stagesAfterLive_of_quiet gyro hctl hquiet hsafe.2.1, stageShape_of_safe hvalid hround hsafe]

theorem safeOutputs_makeSafe (s : State) : SafeOutputs s.makeSafe := ⟨Six.get_const _, rfl, rfl⟩

theorem quiet_failsafeState (c : BitVec 4) (s : State) : Quiet (failsafeState c s) := (quiet_makeSafe s).congr rfl

/-! ## The commands of port CFGP -/

theorem next_of_ite {P : Prop} [Decidable P] {t : State}
    (h : (if P then .next s else .next u : Result) = .next t) : t = s ∨ t = u := by
  split at h <;> cases h
  · exact .inl rfl
  · exact .inr rfl

/-- A configuration command has nothing to do with the engine (R193). -/
theorem exec_of_cfgp {i : Instr} {t : State} (hport : i.port = .cfgp) (h : exec i s = .next t) :
    t.ctl = s.ctl ∧ t.en = s.en := by
  cases i with
  | init | tick now rx gyro | disable => cases hport
  | cfgbegin | cfgwr idx value | cfgend => rcases next_of_ite h with rfl | rfl <;> exact ⟨rfl, rfl⟩

end Sys2Proof.Machine

namespace Sys2Proof.Proofs

open Sys2Proof.Machine Sys2Proof.Safety

/-- Settles O27: S1 is the supervisor on the received state, and the four clauses are the cases of its cause. -/
theorem livenessStageInOrder : Obligations.LivenessStageInOrder := by
  intro s now rx gyroValid P bad s1 elapsedUs timeout gyroFail
  have hs1 : beforeSupervise now rx gyroValid s = s1 := by
    cases rx with
    | none => rfl
    | some r =>
      have hacc := accepted_some_iff s.active r
      rw [beforeSupervise_eq]
      by_cases hlisted : P.peerAny = true ∨ r.src = P.peerAddr
      · simp only [s1, if_pos hlisted, if_pos (hacc.mpr hlisted)]
        rfl
      · simp only [s1, if_neg hlisted, if_neg (hlisted ∘ hacc.mp)]
        rfl
  have hlive : stageLive now rx gyroValid s = supervise now s1 := congrArg (supervise now) hs1
  have hactive : s1.active = P := hs1 ▸ (beforeSupervise_frame now rx gyroValid s).2.1
  have htimeout : linkTimedOut s1.active now s1.lastSeen = true ↔ timeout := by
    rw [linkTimedOut_iff, cast_elapsed, hactive]
  have hgyro : gyroFailed s1.active s1.gyroBad = true ↔ gyroFail := by
    rw [gyroFailed_iff, hactive]
  rw [hlive, ← htimeout, ← hgyro]
  exact ⟨fun hctl => supervise_of_none (failsafeCause_of_not_armed hctl),
    fun hctl htime => supervise_of_some (failsafeCause_of_timeout hctl htime),
    fun hctl htime hbad => supervise_of_some (failsafeCause_of_gyro hctl htime hbad),
    fun _ htime hbad => supervise_of_none (failsafeCause_of_alive htime hbad)⟩

/-- Settles O28: the two policies of `enterFailsafe`, and the path of S3 to S5 that is not Armed. -/
theorem failsafeEntryForcesTheSafeState : Obligations.FailsafeEntryForcesTheSafeState := by
  intro s c
  refine ⟨fun hpolicy => ?_, fun hpolicy => ?_, fun gyro i hctl => ?_⟩
  · rw [enterFailsafe_of_default hpolicy]
    rfl
  · rw [enterFailsafe_of_fatal hpolicy, shutdown_eq]
    rfl
  · rw [stageTargets_of_not_armed gyro (by simp [hctl]), safeTargets, Six.get_const]

/-- Settles O29: the cause of the entry decides the cause of the shutdown, and a stopped engine refuses its ticks. -/
theorem fatalFailsafeStopsTheEngine : Obligations.FatalFailsafeStopsTheEngine := by
  intro s now rx gyro hen P harms hpolicy bad lastSeen timeout hentry
  let u := received now rx gyro s
  have hctl : u.ctl = .armed := received_armed harms
  have htimeout : linkTimedOut u.active now u.lastSeen = true ↔ timeout := received_timedOut_iff
  have hcause : ∃ c, failsafeCause now u = some c ∧
      (timeout → c = causeLinkTimeout) ∧ (¬ timeout → c = causeGyroFail) := by
    by_cases htime : timeout
    · exact ⟨_, failsafeCause_of_timeout hctl (htimeout.mpr htime), fun _ => rfl, absurd htime⟩
    · have hbad : gyroFailed u.active u.gyroBad = true :=
        received_gyroFailed_iff.mpr (hentry.resolve_left htime)
      exact ⟨_, failsafeCause_of_gyro hctl (htime ∘ htimeout.mp) hbad, (absurd · htime), fun _ => rfl⟩
  obtain ⟨c, hsome, hlink, hgyro⟩ := hcause
  have hnine (htime : timeout) : causeFatal + c = 9 := by rw [hlink htime]; rfl
  have hten (htime : ¬ timeout) : causeFatal + c = 10 := by rw [hgyro htime]; rfl
  have hframe (hvalid : cfgValid P = true) (hacc : accepted P rx = true) : ¬ timeout :=
    received_not_timedOut_of_accepted hvalid hacc ∘ htimeout.mpr
  refine ⟨_, exec_tick_of_fatal_entry hen hsome hpolicy, safeOutputs_makeSafe _, (quiet_makeSafe _).congr rfl, rfl, rfl,
    hnine, hten, fun hvalid hacc => hten (hframe hvalid hacc), ?_, exec_tick_of_stopped rfl⟩
  rw [shutdown_eq, received_trace]

/-- Settles O30: the entry makes the outputs safe, and the stages after it leave a safe block as it is. -/
theorem linkTimeoutForcesSafeOutputs : Obligations.LinkTimeoutForcesSafeOutputs := by
  intro s now rx gyro hen hctl P hvalid hno hpolicy hround _ hlate
  let u := received now rx gyro s
  have hactive : u.active = P := received_active now rx gyro s
  have htime : linkTimedOut u.active now u.lastSeen = true := by
    rw [received_timedOut_iff, hno, cast_elapsed_eq_max]
    exact lt_max_of_lt_right hlate
  have hsome : failsafeCause now u = some causeLinkTimeout :=
    failsafeCause_of_timeout (received_armed (.inr hctl)) htime
  let v := failsafeState causeLinkTimeout u
  have hsafe : SafeOutputs v := safeOutputs_makeSafe u
  have hquiet : Quiet v := quiet_failsafeState _ u
  have hfixed : stagesAfterLive (gyro.map gyroRates) v = stageWrite v :=
    stagesAfterLive_of_safe _ (nofun : v.ctl ≠ .armed) (hactive ▸ hvalid : cfgValid u.active = true)
      (by simpa [v, u] using hround) hsafe hquiet
  refine ⟨stageWrite v, (exec_tick_of_entry hen hsome hpolicy).trans (congrArg _ hfixed), rfl, rfl, ?_, hsafe,
    hquiet.congr rfl, ?_, ?_⟩
  · exact (received_en now rx gyro s).trans hen
  · exact congrArg (· ++ [v.writeEvent]) (received_trace now rx gyro s)
  · exact (received_lastSeen now rx gyro s).trans (by rw [hno]; rfl)

/-- Settles O31: neither condition holds, so the tick keeps what it received, and it has received nothing. -/
theorem tickWithinTheTimeoutStaysArmed : Obligations.TickWithinTheTimeoutStaysArmed := by
  intro s now rx gyro hen hctl P hvalid hno hearly hgyro
  have htime : ¬ linkTimedOut (received now rx gyro s).active now (received now rx gyro s).lastSeen = true := by
    rw [received_timedOut_iff, hno, cast_elapsed_eq_max, not_lt]
    exact max_le (cfgValid_timeout_us hvalid) hearly
  have hnone := failsafeCause_of_alive htime (received_gyroFailed_iff.not.mpr (not_lt.mpr hgyro))
  refine ⟨_, exec_tick_of_no_entry hen hnone, ?_⟩
  rw [stagesAfterLive_eq]
  simp [P, hno, hctl]

/-- Settles O32: no timeout precedes the gyro failure, and the stages after the entry only drive the thrusters. -/
theorem gyroFailureEntersFailsafe : Obligations.GyroFailureEntersFailsafe := by
  intro s now rx hen P hvalid hpolicy hbefore hbad
  let u := received now rx none s
  have htime : ¬ linkTimedOut u.active now u.lastSeen = true := by
    by_cases hacc : accepted P rx = true
    · exact received_not_timedOut_of_accepted hvalid hacc
    · obtain ⟨_, hearly⟩ := hbefore.resolve_left hacc
      rw [received_timedOut_iff, if_neg hacc]
      exact not_lt.mpr hearly
  have hsome : failsafeCause now u = some causeGyroFail :=
    failsafeCause_of_gyro (received_armed (hbefore.imp_right And.left)) htime (received_gyroFailed_iff.mpr hbad)
  let v := failsafeState causeGyroFail u
  have hquiet : Quiet v := quiet_failsafeState _ u
  have hdrive : stagesAfterLive none v = stageWrite (stageShape (safeTargets v.active) v) :=
    stagesAfterLive_of_quiet none (nofun : v.ctl ≠ .armed) hquiet rfl
  refine ⟨_, (exec_tick_of_entry hen hsome hpolicy).trans (congrArg _ hdrive), rfl, rfl, hquiet.congr rfl, ?_, ?_⟩
  · exact congrArg Bank.ledOffUs (received_active now rx none s)
  · exact received_gyroBad now rx none s

/-- Settles O33: an accepted frame arms the block, does not time out, and the gyro is within its limit. -/
theorem acceptedFrameArmsTheBlock : Obligations.AcceptedFrameArmsTheBlock := by
  intro s now r gyro hen P hvalid hlisted hgyro
  have hacc : accepted (bankInForce s) (some r) = true := (accepted_some_iff P r).mpr hlisted
  have hnone : failsafeCause now (received now (some r) gyro s) = none :=
    failsafeCause_of_alive (received_not_timedOut_of_accepted hvalid hacc)
      (received_gyroFailed_iff.not.mpr (not_lt.mpr hgyro))
  refine ⟨_, exec_tick_of_no_entry hen hnone, ?_⟩
  rw [stagesAfterLive_eq]
  simp [hacc]

/-- Settles O35: `exec_tick_endings` on a received state that is as before, or Armed by a frame that excludes the
timeout. -/
theorem controlStateTransitions : Obligations.ControlStateTransitions := by
  refine ⟨fun s t now rx gyro hen hvalid hexec => ?_, fun s t i => exec_of_cfgp⟩
  obtain ⟨t', hexec', hending⟩ := exec_tick_endings hen now rx gyro
  cases hexec'.symm.trans hexec
  have hcauses (c) (hsome : failsafeCause now (received now rx gyro s) = some c) :
      (c = causeLinkTimeout ∧ accepted (bankInForce s) rx = false) ∨ c = causeGyroFail :=
    (failsafeCause_eq_some hsome).imp_left fun ⟨hc, htime⟩ =>
      ⟨hc, by simpa using fun hacc => received_not_timedOut_of_accepted hvalid hacc htime⟩
  refine ⟨fun hno hctl => ?_, fun _ hctl => ?_, fun hacc => ?_⟩
  · have hkept : (received now rx gyro s).ctl = s.ctl := by rw [received_ctl, hno]; rfl
    have hnone : failsafeCause now (received now rx gyro s) = none := failsafeCause_of_not_armed (hkept ▸ hctl)
    rcases hending with ⟨_, hc, hrun, hcause, _⟩ | ⟨c, hsome, _⟩
    · exact ⟨hc.trans hkept, hcause, hrun⟩
    · cases hnone.symm.trans hsome
  · have harmed : (received now rx gyro s).ctl = .armed := received_armed (.inr hctl)
    rcases hending with ⟨_, hc, hrun, _⟩ | ⟨c, hsome, ⟨hc, hrun, hcause, _⟩ | ⟨hc, hstop, hcause, _⟩⟩
    · exact .inl ⟨hc.trans harmed, hrun⟩
    · refine .inr (.inl ⟨hc, hrun, hcause ▸ ?_⟩)
      exact (hcauses c hsome).imp_left And.left
    · refine .inr (.inr ⟨hc, hstop, hcause ▸ ?_⟩)
      rcases hcauses c hsome with ⟨rfl, _⟩ | rfl
      · exact .inl rfl
      · exact .inr rfl
  · have harmed : (received now rx gyro s).ctl = .armed := received_armed (.inl hacc)
    have hgyro (c) (hsome : failsafeCause now (received now rx gyro s) = some c) : c = causeGyroFail :=
      (hcauses c hsome).resolve_left fun ⟨_, hno⟩ => nomatch hacc.symm.trans hno
    rcases hending with ⟨_, hc, hrun, _⟩ | ⟨c, hsome, ⟨hc, hrun, hcause, _⟩ | ⟨hc, hstop, hcause, _⟩⟩
    · exact .inl ⟨hc.trans harmed, hrun⟩
    · exact .inr (.inl ⟨hc, hrun, hcause.trans (hgyro c hsome)⟩)
    · exact .inr (.inr ⟨hc, hstop, by rw [hcause, hgyro c hsome]; rfl⟩)

/-- Settles O36: S1 counts, and only the shutdown of a fatal stop clears the count. -/
theorem gyroFailuresAreCounted : Obligations.GyroFailuresAreCounted := by
  intro s now rx gyro hen
  obtain ⟨t, hexec, hending⟩ := exec_tick_endings hen now rx gyro
  rw [received_gyroBad] at hending
  refine ⟨t, hexec, ?_⟩
  rcases hending with ⟨_, _, hrun, _, hbad⟩ | ⟨_, _, ⟨_, hrun, _, hbad⟩ | ⟨_, hstop, _, hbad⟩⟩
  · exact ⟨fun _ => hbad, fun hstop => nomatch hrun.symm.trans hstop⟩
  · exact ⟨fun _ => hbad, fun hstop => nomatch hrun.symm.trans hstop⟩
  · exact ⟨fun hrun => (nomatch hstop.symm.trans hrun), fun _ => hbad⟩

/-- Settles O37: S0 and S1 change neither the session nor the outputs, and the stages after them keep a safe block. -/
theorem unarmedTickHoldsSafeOutputs : Obligations.UnarmedTickHoldsSafeOutputs := by
  intro s now rx gyro hen hctl hvalid hkept hno hsafe hquiet hround
  have hbank : bankInForce s = s.active := bankInForce_of_not_taken hkept
  let u := received now rx gyro s
  have hunarmed : u.ctl = s.ctl := by simp [u, hbank, hno]
  have hactive : u.active = s.active := (received_active now rx gyro s).trans hbank
  have hsafeReceived : SafeOutputs u := by simpa [SafeOutputs, u, hbank] using hsafe
  have hquietReceived : Quiet u := hquiet.congr (received_sessionOf (hbank ▸ hno))
  have hfixed : stagesAfterLive (gyro.map gyroRates) u = stageWrite u :=
    stagesAfterLive_of_safe _ (hunarmed ▸ hctl) (hactive ▸ hvalid) (by simpa [u, hbank] using hround) hsafeReceived
      hquietReceived
  have hnone : failsafeCause now u = none := failsafeCause_of_not_armed (hunarmed ▸ hctl)
  refine ⟨stageWrite u, (exec_tick_of_no_entry hen hnone).trans (congrArg _ hfixed), hsafeReceived,
    hquietReceived.congr rfl, hunarmed, ?_⟩
  calc (stageWrite u).trace = u.trace ++ [.write u.cur u.cur6] := rfl
    _ = s.trace ++ [.write s.cur s.cur6] := by simp [u, stageSnap_trace_of_not_taken hkept]

end Sys2Proof.Proofs

/-! PROOFS. The thrust mixer (spec R135 to R146): the sign and the channel pairs of a stick, the normalised magnitude
between the deadzone and the top, and the range of each term of a raw target. -/

namespace Sys2Proof.Machine

variable {P : Bank} {v rot tr : BitVec 16} {pair : List (Fin 6)} {i : Fin 6}

/-! ## Signs and activity -/

theorem sgn_of_pos (h : 0 < v.toInt) : sgn v = 1 := if_pos h

theorem sgn_of_neg (h : v.toInt < 0) : sgn v = -1 := by
  rw [sgn, if_neg h.not_gt, if_pos h]

theorem sgn_of_rest (h : v.toInt = 0) : sgn v = 0 := by
  rw [sgn, h]
  rfl

theorem sgn_pos_iff (v : BitVec 16) : 0 < sgn v ↔ 0 < v.toInt := by
  rcases lt_trichotomy v.toInt 0 with hneg | hrest | hpos
  · simp [sgn_of_neg hneg, hneg.le]
  · simp [sgn_of_rest hrest, hrest]
  · simp [sgn_of_pos hpos, hpos]

theorem active_iff (P : Bank) (v : BitVec 16) : active P v = true ↔ P.deadzone < mag v := decide_eq_true_iff

/-- V2 leaves room above the deadzone: a stick at the top is active. -/
theorem active_of_full (hvalid : cfgValid P = true) (hfull : mag v = 32767) : active P v = true := by
  rw [active_iff, hfull]
  exact (cfgValid_deadzone hvalid).2

/-! ## The channel pairs -/

theorem rotationPair_of_pos (h : 0 < v.toInt) : rotationPair v = [0, 3] := if_pos h

theorem rotationPair_of_neg (h : v.toInt < 0) : rotationPair v = [1, 2] := if_neg h.not_gt

theorem translationPair_of_pos (h : 0 < v.toInt) : translationPair v = [0, 2] := if_pos h

theorem translationPair_of_neg (h : v.toInt < 0) : translationPair v = [1, 3] := if_neg h.not_gt

/-- Each diagonal pair meets each side pair in one channel, the entry of the sign table (R143). -/
theorem mem_both_pairs_iff (rot tr : BitVec 16) (k : Fin 6) :
    k ∈ rotationPair rot ∧ k ∈ translationPair tr ↔ k = boostChannel (sgn rot) (sgn tr) := by
  simp only [rotationPair, translationPair, boostChannel, sgn_pos_iff]
  by_cases hrot : 0 < rot.toInt <;> by_cases htr : 0 < tr.toInt <;> simp only [hrot, htr, if_true, if_false]
  all_goals
    revert k
    decide

theorem boostChannel_le (rot tr : ℤ) : boostChannel rot tr ≤ 3 := by
  unfold boostChannel
  split_ifs <;> decide

/-! ## The normalised stick value (R137) -/

theorem stickSpan_eq (P : Bank) : stickSpan P = 32767 - P.deadzone := by
  simp [stickSpan, Config.stickMax]

theorem stickFraction_eq (P : Bank) (m : ℤ) : stickFraction P m = ((m : ℚ) - P.deadzone) / (32767 - P.deadzone) := by
  rw [stickFraction, stickSpan_eq]

theorem stickSpan_pos (hvalid : cfgValid P = true) : 0 < stickSpan P := by
  rw [stickSpan_eq, sub_pos]
  exact_mod_cast (cfgValid_deadzone hvalid).2

theorem stickFraction_mono (hvalid : cfgValid P = true) : Monotone (stickFraction P) := by
  intro m n hmn
  have hspan := stickSpan_pos hvalid
  unfold stickFraction
  gcongr

theorem stickFraction_top (hvalid : cfgValid P = true) : stickFraction P 32767 = 1 := by
  have hspan := stickSpan_pos hvalid
  rw [stickSpan_eq] at hspan
  rw [stickFraction_eq]
  exact div_self hspan.ne'

theorem stickFraction_nonneg (hvalid : cfgValid P = true) {m : ℤ} (h : P.deadzone ≤ m) : 0 ≤ stickFraction P m :=
  div_nonneg (sub_nonneg.mpr (Int.cast_le.mpr h)) (stickSpan_pos hvalid).le

theorem stickFraction_le_one (hvalid : cfgValid P = true) {m : ℤ} (h : m ≤ 32767) : stickFraction P m ≤ 1 :=
  (stickFraction_mono hvalid h).trans_eq (stickFraction_top hvalid)

/-- The linear map of a value between the deadzone and the top stays between its ends. -/
theorem lin_mem (hvalid : cfgValid P = true) {m : ℤ} {lo hi : ℚ} (hlohi : lo ≤ hi) (hdead : P.deadzone ≤ m)
    (htop : m ≤ 32767) : lo ≤ lin P m lo hi ∧ lin P m lo hi ≤ hi := by
  have hspread : 0 ≤ hi - lo := sub_nonneg.mpr hlohi
  have hlow := mul_nonneg (stickFraction_nonneg hvalid hdead) hspread
  have hhigh := mul_le_of_le_one_left hspread (stickFraction_le_one hvalid htop)
  unfold lin
  constructor <;> linarith

theorem lin_top (hvalid : cfgValid P = true) (lo hi : ℚ) : lin P 32767 lo hi = hi := by
  rw [lin, stickFraction_top hvalid]
  ring

/-! ## The contribution of one stick (R139, R140) -/

theorem contribution_of_inactive (h : active P v = false) (pair : List (Fin 6)) (i : Fin 6) :
    contribution P v pair i = P.pwmMin := by
  simp [contribution, h]

theorem contribution_of_notMem (h : i ∉ pair) : contribution P v pair i = P.pwmMin := by
  simp [contribution, h]

theorem contribution_of_mem (hactive : active P v = true) (h : i ∈ pair) :
    contribution P v pair i = lin P (mag v) P.pwmMin P.pwmNormalMax :=
  if_pos ⟨hactive, h⟩

theorem contribution_mem (hvalid : cfgValid P = true) (v : BitVec 16) (pair : List (Fin 6)) (i : Fin 6) :
    P.pwmMin ≤ contribution P v pair i ∧ contribution P v pair i ≤ P.pwmNormalMax := by
  obtain ⟨_, hnormal, _⟩ := cfgValid_pulse hvalid
  unfold contribution
  split_ifs with h
  · exact lin_mem hvalid hnormal ((active_iff P v).mp h.1).le (mag_le v)
  · exact ⟨le_rfl, hnormal⟩

theorem contribution_of_full (hvalid : cfgValid P = true) (hfull : mag v = 32767) (h : i ∈ pair) :
    contribution P v pair i = P.pwmNormalMax := by
  rw [contribution_of_mem (active_of_full hvalid hfull) h, hfull, lin_top hvalid]

/-! ## The boost (R142) -/

theorem boost_of_inactive (h : active P rot = false ∨ active P tr = false) (i : Fin 6) : boost P rot tr i = 0 := by
  rcases h with h | h <;> simp [boost, h]

theorem boost_mem (hvalid : cfgValid P = true) (rot tr : BitVec 16) (i : Fin 6) :
    0 ≤ boost P rot tr i ∧ boost P rot tr i ≤ P.pwmBoostMax - P.pwmNormalMax := by
  obtain ⟨_, _, hboost⟩ := cfgValid_pulse hvalid
  have hextent : 0 ≤ P.pwmBoostMax - P.pwmNormalMax := sub_nonneg.mpr hboost
  unfold boost
  split_ifs with h
  · obtain ⟨hrot, htr, _⟩ := h
    have hdead : P.deadzone ≤ min (mag rot) (mag tr) :=
      le_min ((active_iff P rot).mp hrot).le ((active_iff P tr).mp htr).le
    have htop : min (mag rot) (mag tr) ≤ 32767 := (min_le_left _ _).trans (mag_le rot)
    exact ⟨mul_nonneg (stickFraction_nonneg hvalid hdead) hextent,
      mul_le_of_le_one_left hextent (stickFraction_le_one hvalid htop)⟩
  · exact ⟨le_rfl, hextent⟩

theorem boost_of_full (hvalid : cfgValid P = true) (hrot : mag rot = 32767) (htr : mag tr = 32767) :
    boost P rot tr (boostChannel (sgn rot) (sgn tr)) = P.pwmBoostMax - P.pwmNormalMax := by
  rw [boost, if_pos ⟨active_of_full hvalid hrot, active_of_full hvalid htr, rfl⟩, hrot, htr, min_self,
    stickFraction_top hvalid, one_mul]

/-! ## The horizontal channels (R141) -/

/-- Below the boost a raw target is a contribution, so it stays in the normal range. -/
theorem larger_contribution_mem (hvalid : cfgValid P = true) (f : GamepadFrame) (i : Fin 6) :
    P.pwmMin ≤ max (contribution P f.leftX (rotationPair f.leftX) i)
        (contribution P f.rightX (translationPair f.rightX) i) ∧
      max (contribution P f.leftX (rotationPair f.leftX) i) (contribution P f.rightX (translationPair f.rightX) i) ≤
        P.pwmNormalMax := by
  obtain ⟨hrotLow, hrotHigh⟩ := contribution_mem hvalid f.leftX (rotationPair f.leftX) i
  obtain ⟨_, htrHigh⟩ := contribution_mem hvalid f.rightX (translationPair f.rightX) i
  exact ⟨le_max_of_le_left hrotLow, max_le hrotHigh htrHigh⟩

theorem rawHorizontal_mem (hvalid : cfgValid P = true) (f : GamepadFrame) (i : Fin 6) :
    P.pwmMin ≤ rawHorizontal P f i ∧ rawHorizontal P f i ≤ P.pwmBoostMax := by
  obtain ⟨hlow, hhigh⟩ := larger_contribution_mem hvalid f i
  obtain ⟨hboostLow, hboostHigh⟩ := boost_mem hvalid f.leftX f.rightX i
  unfold rawHorizontal
  constructor <;> linarith

theorem rawHorizontal_of_inactive {f : GamepadFrame} (h : active P f.leftX = false ∨ active P f.rightX = false)
    (i : Fin 6) :
    rawHorizontal P f i = max (contribution P f.leftX (rotationPair f.leftX) i)
      (contribution P f.rightX (translationPair f.rightX) i) := by
  rw [rawHorizontal, boost_of_inactive h, add_zero]

/-- The boosted channel is in both pairs, so at full magnitude both contributions are `pwm_normal_max` there. -/
theorem rawHorizontal_of_full (hvalid : cfgValid P = true) {f : GamepadFrame} (hrot : mag f.leftX = 32767)
    (htr : mag f.rightX = 32767) :
    rawHorizontal P f (boostChannel (sgn f.leftX) (sgn f.rightX)) = P.pwmBoostMax := by
  obtain ⟨hmemRot, hmemTr⟩ := (mem_both_pairs_iff f.leftX f.rightX _).mpr rfl
  rw [rawHorizontal, contribution_of_full hvalid hrot hmemRot, contribution_of_full hvalid htr hmemTr, max_self,
    boost_of_full hvalid hrot htr, add_sub_cancel]

/-! ## The forward group (R144, R145) -/

theorem response_one (P : Bank) : response P 1 = 1 := by
  simp [response]

theorem response_nonneg {t : ℚ} (h : 0 ≤ t) : 0 ≤ response P t := by
  unfold response
  split_ifs
  · exact mul_self_nonneg t
  · exact h

/-- Both responses are monotonic above the deadzone; the square only there. -/
theorem response_mono {t u : ℚ} (ht : 0 ≤ t) (htu : t ≤ u) : response P t ≤ response P u := by
  unfold response
  split_ifs
  · exact mul_self_le_mul_self ht htu
  · exact htu

theorem rawForward_of_le (h : v.toInt ≤ P.deadzone) : rawForward P v = P.pwmMin := if_neg h.not_gt

theorem rawForward_of_lt (h : P.deadzone < v.toInt) :
    rawForward P v = P.pwmMin + response P (stickFraction P v.toInt) * (P.pwmBoostMax - P.pwmMin) := if_pos h

theorem pwmMin_le_rawForward (hvalid : cfgValid P = true) (v : BitVec 16) : P.pwmMin ≤ rawForward P v := by
  rcases le_or_gt v.toInt P.deadzone with h | h
  · exact (rawForward_of_le h).ge
  · rw [rawForward_of_lt h]
    exact le_add_of_nonneg_right (mul_nonneg (response_nonneg (stickFraction_nonneg hvalid h.le))
      (sub_nonneg.mpr (cfgValid_min_le_boost hvalid)))

theorem rawForward_mono (hvalid : cfgValid P = true) {v w : BitVec 16} (h : v.toInt ≤ w.toInt) :
    rawForward P v ≤ rawForward P w := by
  rcases le_or_gt v.toInt P.deadzone with hv | hv
  · rw [rawForward_of_le hv]
    exact pwmMin_le_rawForward hvalid w
  · rw [rawForward_of_lt hv, rawForward_of_lt (hv.trans_le h)]
    have hresponse := response_mono (P := P) (stickFraction_nonneg hvalid hv.le) (stickFraction_mono hvalid h)
    exact add_le_add_right
      (mul_le_mul_of_nonneg_right hresponse (sub_nonneg.mpr (cfgValid_min_le_boost hvalid))) _

theorem rawForward_of_full (hvalid : cfgValid P = true) (hfull : v.toInt = 32767) :
    rawForward P v = P.pwmBoostMax := by
  have hlt : P.deadzone < v.toInt := hfull ▸ (cfgValid_deadzone hvalid).2
  rw [rawForward_of_lt hlt, hfull, stickFraction_top hvalid, response_one, one_mul, add_sub_cancel]

/-- No stick value is above the top, where the target is `pwm_boost_max`. -/
theorem rawForward_le (hvalid : cfgValid P = true) (v : BitVec 16) : rawForward P v ≤ P.pwmBoostMax := by
  have htop : v.toInt ≤ (32767 : BitVec 16).toInt := BitVec.toInt_le
  exact (rawForward_mono hvalid htop).trans_eq (rawForward_of_full hvalid rfl)

/-! ## Stage S4, channel by channel -/

theorem stageMix_get_of_le (P : Bank) (f : GamepadFrame) (h : i ≤ 3) : (stageMix P f).get i = rawHorizontal P f i := by
  have hcases : i = 0 ∨ i = 1 ∨ i = 2 ∨ i = 3 := by omega
  rcases hcases with rfl | rfl | rfl | rfl <;> rfl

theorem stageMix_get_four (P : Bank) (f : GamepadFrame) : (stageMix P f).get 4 = rawForward P f.rightY := rfl

theorem stageMix_get_five (P : Bank) (f : GamepadFrame) : (stageMix P f).get 5 = rawForward P f.rightY := rfl

end Sys2Proof.Machine

namespace Sys2Proof.Proofs

open Sys2Proof.Machine

/-- Settles O40: the only arithmetic is that an active stick of a valid bank is away from rest. -/
theorem stickMagnitudeAndActivity : Obligations.StickMagnitudeAndActivity := by
  intro P v
  refine ⟨rfl, by decide, active_iff P v, sgn_of_pos, sgn_of_neg, sgn_of_rest, fun hvalid hactive => ?_⟩
  rcases (toInt_ne_zero_of_active hvalid hactive).lt_or_gt with hneg | hpos
  · exact .inr (sgn_of_neg hneg)
  · exact .inl (sgn_of_pos hpos)

/-- Settles O41: the sign picks the pair, and membership in it decides between the linear map and `pwm_min`. -/
theorem sticksDriveTheirChannelPairs : Obligations.SticksDriveTheirChannelPairs := by
  intro P v dz x rot tr
  have hon {pair : List (Fin 6)} {i : Fin 6} (hactive : active P v = true) (hmem : i ∈ pair) :
      contribution P v pair i = x := by
    rw [contribution_of_mem hactive hmem, lin, stickFraction_eq]
  have hoff {pair : List (Fin 6)} {i : Fin 6} (hmem : i ∉ pair) : contribution P v pair i = P.pwmMin :=
    contribution_of_notMem hmem
  refine ⟨fun hactive hpos => ?_, fun hactive hneg => ?_, fun hinactive i => ?_⟩
  · simp only [rot, tr, rotationPair_of_pos hpos, translationPair_of_pos hpos]
    exact ⟨hon hactive (by decide), hon hactive (by decide), hoff (by decide), hoff (by decide),
      hon hactive (by decide), hon hactive (by decide), hoff (by decide), hoff (by decide)⟩
  · simp only [rot, tr, rotationPair_of_neg hneg, translationPair_of_neg hneg]
    exact ⟨hon hactive (by decide), hon hactive (by decide), hoff (by decide), hoff (by decide),
      hon hactive (by decide), hon hactive (by decide), hoff (by decide), hoff (by decide)⟩
  · exact ⟨contribution_of_inactive hinactive _ i, contribution_of_inactive hinactive _ i⟩

/-- Settles O42: the entries by evaluation, the intersection in the four cases of the two signs. -/
theorem boostChannelIsTheCommonChannel : Obligations.BoostChannelIsTheCommonChannel :=
  ⟨by decide, fun _ rot tr _ _ _ k => mem_both_pairs_iff rot tr k⟩

/-- Settles O43: channels 0 to 3 by the ranges of contribution and boost, 4 and 5 by the forward map. -/
theorem rawTargetsStayInRange : Obligations.RawTargetsStayInRange := by
  intro P f i hvalid
  have hforward : P.pwmMin ≤ rawForward P f.rightY ∧ rawForward P f.rightY ≤ P.pwmBoostMax :=
    ⟨pwmMin_le_rawForward hvalid _, rawForward_le hvalid _⟩
  have hcases : i ≤ 3 ∨ i = 4 ∨ i = 5 := by omega
  rcases hcases with hle | rfl | rfl
  · rw [stageMix_get_of_le P f hle]
    exact rawHorizontal_mem hvalid f i
  · exact hforward
  · exact hforward

/-- Settles O44: the definition with its fraction written out; at the two ends the boost is full or absent. -/
theorem fullSticksReachTheBoostMaximum : Obligations.FullSticksReachTheBoostMaximum := by
  refine ⟨fun P f i hi => ?_, fun P f hvalid => ⟨fun hrot htr => ?_, fun hinactive i hi => ?_⟩⟩
  · simp only [stageMix_get_of_le P f hi, rawHorizontal, boost, stickFraction_eq]
  · rw [stageMix_get_of_le P f (boostChannel_le _ _)]
    exact rawHorizontal_of_full hvalid hrot htr
  · rw [stageMix_get_of_le P f hi, rawHorizontal_of_inactive hinactive]
    exact ⟨rfl, (larger_contribution_mem hvalid f i).2⟩

/-- Settles O45: channels 4 and 5 are one map of `rightY`, read at, below and above the deadzone and at the top. -/
theorem forwardMapIsMonotonic : Obligations.ForwardMapIsMonotonic := by
  intro P hvalid
  simp only [stageMix_get_four, stageMix_get_five, implies_true, true_and]
  refine ⟨fun _ hle => rawForward_of_le hle, fun f hlt => ?_, fun _ _ => rawForward_mono hvalid,
    fun _ => rawForward_of_full hvalid⟩
  rw [rawForward_of_lt hlt, stickFraction_eq]
  rfl

end Sys2Proof.Proofs

/-! PROOFS. The stabilizer (spec R150 to R166): the terms of a correction, the registers on each path of stage S3, and
the combined targets of stage S5. -/

namespace Sys2Proof.Machine

variable {P : Bank} {f : GamepadFrame} {s : State} {yaw : ℚ}

/-! ## Corrections, channel by channel -/

/-- What holds of every channel holds of the six fields. -/
theorem Six.forall_get_iff {α : Type} {p : α → Prop} (v : Six α) :
    (∀ i, p (v.get i)) ↔ p v.c0 ∧ p v.c1 ∧ p v.c2 ∧ p v.c3 ∧ p v.c4 ∧ p v.c5 := by
  constructor
  · exact fun h => ⟨h 0, h 1, h 2, h 3, h 4, h 5⟩
  · rintro ⟨h0, h1, h2, h3, h4, h5⟩ i
    fin_cases i <;> assumption

theorem noCorrection_get (i : Fin 6) : noCorrection.get i = 0 := Six.get_const 0 i

theorem alternating_zero : alternating 0 = noCorrection := by
  simp [alternating, noCorrection, Six.const]

theorem alternating_add (u : ℚ) (y : Six ℚ) :
    (alternating u).add y = ⟨-u + y.c0, u + y.c1, u + y.c2, -u + y.c3, y.c4, y.c5⟩ := by
  simp [Six.add, Six.ofFn, Six.get, alternating]

/-- The strafe term is the alternating pattern of an output that an inactive translation stick silences (R152). -/
theorem strafeTerm_eq (P : Bank) (f : GamepadFrame) (u : ℚ) :
    strafeTerm P f u = alternating (if active P f.rightX then u else 0) := by
  rw [apply_ite alternating, alternating_zero, strafeTerm]

/-! ## Yaw trigger (b) (R155) -/

theorem yawHoldCorrection_eq (P : Bank) (yaw : ℚ) :
    yawHoldCorrection P yaw = max (-400) (min 400 (-yaw * P.yawGain)) :=
  clamp_eq_max_min (by norm_num [Config.yawHoldClamp])

theorem yawHoldCorrection_mem (P : Bank) (yaw : ℚ) :
    -400 ≤ yawHoldCorrection P yaw ∧ yawHoldCorrection P yaw ≤ 400 :=
  clamp_mem (by norm_num [Config.yawHoldClamp])

theorem yawHoldTerm_of_off (h : active P f.leftX = true ∨ |yaw| ≤ P.yawThresholdDps) :
    yawHoldTerm P f yaw = noCorrection := by
  refine if_neg ?_
  rintro ⟨hinactive, hover⟩
  rcases h with hactive | hwithin
  · exact Bool.false_ne_true (hinactive.symm.trans hactive)
  · exact hwithin.not_gt hover

section Acting

variable (hinactive : active P f.leftX = false) (hover : P.yawThresholdDps < |yaw|)

include hinactive hover

theorem yawHoldTerm_of_pos (hc : 0 < yawHoldCorrection P yaw) :
    yawHoldTerm P f yaw = ⟨yawHoldCorrection P yaw, 0, 0, yawHoldCorrection P yaw, 0, 0⟩ := by
  rw [yawHoldTerm, if_pos ⟨hinactive, hover⟩]
  exact if_pos hc

theorem yawHoldTerm_of_neg (hc : yawHoldCorrection P yaw < 0) :
    yawHoldTerm P f yaw = ⟨0, -yawHoldCorrection P yaw, -yawHoldCorrection P yaw, 0, 0, 0⟩ := by
  rw [yawHoldTerm, if_pos ⟨hinactive, hover⟩]
  exact (if_neg hc.not_gt).trans (if_pos hc)

theorem yawHoldTerm_of_zero (hc : yawHoldCorrection P yaw = 0) : yawHoldTerm P f yaw = noCorrection := by
  rw [yawHoldTerm, if_pos ⟨hinactive, hover⟩]
  exact (if_neg hc.not_gt).trans (if_neg hc.not_lt)

end Acting

/-- The three shapes of the trigger's term. -/
theorem yawHoldTerm_cases (P : Bank) (f : GamepadFrame) (yaw : ℚ) :
    let c := yawHoldCorrection P yaw
    yawHoldTerm P f yaw = noCorrection ∨ (0 < c ∧ yawHoldTerm P f yaw = ⟨c, 0, 0, c, 0, 0⟩) ∨
      (c < 0 ∧ yawHoldTerm P f yaw = ⟨0, -c, -c, 0, 0, 0⟩) := by
  by_cases hacts : active P f.leftX = false ∧ P.yawThresholdDps < |yaw|
  · obtain ⟨hinactive, hover⟩ := hacts
    rcases lt_trichotomy (yawHoldCorrection P yaw) 0 with hneg | hzero | hpos
    · exact .inr (.inr ⟨hneg, yawHoldTerm_of_neg hinactive hover hneg⟩)
    · exact .inl (yawHoldTerm_of_zero hinactive hover hzero)
    · exact .inr (.inl ⟨hpos, yawHoldTerm_of_pos hinactive hover hpos⟩)
  · exact .inl (if_neg hacts)

theorem yawHoldTerm_forward (P : Bank) (f : GamepadFrame) (yaw : ℚ) :
    (yawHoldTerm P f yaw).c4 = 0 ∧ (yawHoldTerm P f yaw).c5 = 0 := by
  rcases yawHoldTerm_cases P f yaw with h | ⟨_, h⟩ | ⟨_, h⟩ <;> rw [h] <;> exact ⟨rfl, rfl⟩

theorem yawHoldTerm_get_mem (P : Bank) (f : GamepadFrame) (yaw : ℚ) (i : Fin 6) :
    0 ≤ (yawHoldTerm P f yaw).get i ∧ (yawHoldTerm P f yaw).get i ≤ 400 := by
  obtain ⟨hlow, hhigh⟩ := yawHoldCorrection_mem P yaw
  have hrest : (0 : ℚ) ≤ 0 ∧ (0 : ℚ) ≤ 400 := by norm_num
  revert i
  rw [Six.forall_get_iff (p := fun x => 0 ≤ x ∧ x ≤ 400)]
  rcases yawHoldTerm_cases P f yaw with h | ⟨hpos, h⟩ | ⟨hneg, h⟩ <;> rw [h]
  · exact ⟨hrest, hrest, hrest, hrest, hrest, hrest⟩
  · have hc := And.intro hpos.le hhigh
    exact ⟨hc, hrest, hrest, hc, hrest, hrest⟩
  · have hc := And.intro (neg_nonneg.mpr hneg.le) (neg_le.mp hlow)
    exact ⟨hrest, hc, hc, hrest, hrest, hrest⟩

/-- The corrections outside hold, in both modes: the strafe term and the trigger's, none on the forward group. -/
theorem strafeTerm_add_yawHoldTerm (P : Bank) (f : GamepadFrame) (u yaw : ℚ) :
    (strafeTerm P f u).add (yawHoldTerm P f yaw) =
      let h := if active P f.rightX then u else 0
      let y := yawHoldTerm P f yaw
      ⟨-h + y.c0, h + y.c1, h + y.c2, -h + y.c3, 0, 0⟩ := by
  obtain ⟨h4, h5⟩ := yawHoldTerm_forward P f yaw
  rw [strafeTerm_eq, alternating_add, h4, h5]

/-! ## The hold update (R157, R158) -/

/-- The hold update as one update of the state: the registers survive only where `hold` has not changed. -/
theorem updateHold_eq (s : State) :
    updateHold s = { s with
      inHold := holdDetected s.active s.latest
      integ := if holdDetected s.active s.latest = s.inHold then s.integ else .const (s.rounding.apply 0)
      eprev := if holdDetected s.active s.latest = s.inHold then s.eprev else .const (s.rounding.apply 0) } := by
  by_cases h : holdDetected s.active s.latest = s.inHold <;> simp [updateHold, State.zeroStab, h]

@[simp] theorem updateHold_active (s : State) : (updateHold s).active = s.active := (updateHold_frame s).1

@[simp] theorem updateHold_rounding (s : State) : (updateHold s).rounding = s.rounding := (updateHold_frame s).2

@[simp] theorem updateHold_latest (s : State) : (updateHold s).latest = s.latest := by
  rw [updateHold_eq]

@[simp] theorem updateHold_inHold (s : State) : (updateHold s).inHold = holdDetected s.active s.latest := by
  rw [updateHold_eq]

theorem updateHold_integ_get (s : State) (a : Axis) :
    (updateHold s).integ.get a =
      if holdDetected s.active s.latest = s.inHold then s.integ.get a else s.rounding.apply 0 := by
  rw [updateHold_eq]
  exact (apply_ite (Axes.get · a) _ _ _).trans (by rw [Axes.get_const])

theorem updateHold_eprev_get (s : State) (a : Axis) :
    (updateHold s).eprev.get a =
      if holdDetected s.active s.latest = s.inHold then s.eprev.get a else s.rounding.apply 0 := by
  rw [updateHold_eq]
  exact (apply_ite (Axes.get · a) _ _ _).trans (by rw [Axes.get_const])

theorem zeroStab_updateHold (s : State) :
    (updateHold s).zeroStab = { s.zeroStab with inHold := holdDetected s.active s.latest } := by
  rw [updateHold_eq]
  rfl

/-! ## The PID outputs (R159, R161, R162) -/

theorem pidOutputs_get (rate : Axes ℚ) (s : State) (a : Axis) :
    (pidOutputs rate s).get a =
      pidOutput s.active a (rate.get a) (pidIntegral s.rounding s.active (rate.get a) (s.integ.get a))
        (pidDerivative s.active (rate.get a) (s.eprev.get a)) := Axes.get_ofFn _ a

/-- An axis without integral and derivative gain has the proportional term only. -/
theorem pidOutput_of_no_gains {a : Axis} (hki : P.ki a = 0) (hkd : P.kd a = 0) (e i d : ℚ) :
    pidOutput P a e i d = P.kp a * e := by
  rw [pidOutput, hki, hkd, zero_mul, zero_mul, add_zero, add_zero]

theorem pidCorr_of_hold (P : Bank) (f : GamepadFrame) (u rate : Axes ℚ) :
    pidCorr P f true u rate =
      let h := u.get .roll + u.get .yaw
      ⟨-h, h, h, -h, u.get .pitch, -u.get .pitch⟩ := by
  rw [pidCorr, if_pos rfl, alternating_add]
  simp only [differential, add_zero]
  rfl

theorem pidCorr_of_no_hold (P : Bank) (f : GamepadFrame) (u rate : Axes ℚ) :
    pidCorr P f false u rate =
      (strafeTerm P f (u.get .roll + u.get .yaw)).add (yawHoldTerm P f (rate.get .yaw)) :=
  if_neg Bool.false_ne_true

/-! ## Stage S3 on each of its four paths (R150, R163) -/

theorem stageStab_baseline (hmode : s.active.stabPid = false) (rate : Axes ℚ) :
    stageStab (some rate) s = ({ s.zeroStab with inHold := false }, proportionalCorr s.active s.latest rate) := by
  rw [stageStab, hmode]
  rfl

theorem stageStab_baseline_of_failed_read (hmode : s.active.stabPid = false) :
    stageStab none s = ({ s.zeroStab with inHold := false }, noCorrection) := by
  rw [stageStab, hmode]
  rfl

theorem stageStab_pid (hmode : s.active.stabPid = true) (rate : Axes ℚ) :
    stageStab (some rate) s =
      (pidRegisters rate (updateHold s),
        pidCorr s.active s.latest (holdDetected s.active s.latest) (pidOutputs rate (updateHold s)) rate) := by
  rw [stageStab, if_pos hmode]
  simp only [stabPidHold, updateHold_active, updateHold_latest, updateHold_inHold]

theorem stageStab_pid_of_failed_read (hmode : s.active.stabPid = true) :
    stageStab none s = ({ s.zeroStab with inHold := holdDetected s.active s.latest }, noCorrection) := by
  rw [stageStab, if_pos hmode, ← zeroStab_updateHold]
  rfl

/-! ## Stage S5 (R164) -/

theorem combine_get (P : Bank) (raw corr : Six ℚ) (i : Fin 6) :
    (combine P raw corr).get i = clamp (raw.get i + corr.get i) P.pwmMin P.pwmBoostMax := Six.get_ofFn _ i

/-- While Armed the targets are combined under the bank and the frame of the state before S3, which S3 leaves alone. -/
theorem stageTargets_of_armed (harmed : s.ctl = .armed) (gyro : Option (Axes ℚ)) :
    stageTargets gyro s =
      ((stageStab gyro s).1, combine s.active (stageMix s.active s.latest) (stageStab gyro s).2) := by
  have hactive : (stageStab gyro s).1.active = s.active := by rw [stageStab_eq]
  have hlatest : (stageStab gyro s).1.latest = s.latest := by rw [stageStab_eq]
  rw [stageTargets, if_pos harmed]
  simp only [hactive, hlatest]

end Sys2Proof.Machine

namespace Sys2Proof.Proofs

open Sys2Proof.Machine

/-- Settles O46: the baseline's path of S3, with its two terms added channel by channel. -/
theorem proportionalStageCorrections : Obligations.ProportionalStageCorrections := by
  intro s rate hmode P u y z
  rw [stageStab_baseline hmode rate]
  exact ⟨rfl, strafeTerm_add_yawHoldTerm P s.latest _ rate.yaw⟩

/-- Settles O47: the clamp's value decides between the shapes of the term, and its range bounds each of them. -/
theorem yawHoldRaisesTheOpposingPair : Obligations.YawHoldRaisesTheOpposingPair := by
  intro P f yaw c
  have hc : c = yawHoldCorrection P yaw := (yawHoldCorrection_eq P yaw).symm
  rw [hc]
  exact ⟨yawHoldTerm_of_off, yawHoldTerm_of_pos, yawHoldTerm_of_neg, yawHoldTerm_of_zero, yawHoldTerm_get_mem P f yaw⟩

/-- Settles O48: the PID path of S3; the axes step from the registers that the hold update leaves. -/
theorem pidStageStepsEveryAxis : Obligations.PidStageStepsEveryAxis := by
  intro s rate hmode P f hold i0 e0 i1 u t h y h'
  have hpid := stageStab_pid hmode rate
  have hi (a : Axis) : pidIntegral s.rounding P (rate.get a) ((updateHold s).integ.get a) = i1 a := by
    rw [updateHold_integ_get]
    rfl
  have hu (a : Axis) : (pidOutputs rate (updateHold s)).get a = u a := by
    rw [pidOutputs_get, updateHold_active, updateHold_rounding, hi, updateHold_eprev_get]
    rfl
  have ht : t = pidRegisters rate (updateHold s) := congrArg Prod.fst hpid
  refine ⟨?_, fun a => ?_, ?_⟩
  · have hinHold : t.inHold = hold := by rw [ht, pidRegisters_inHold, updateHold_inHold]; rfl
    rw [← hinHold]
    exact stageStab_eq s (some rate)
  · rw [ht, pidRegisters_integ, pidRegisters_eprev, Axes.get_ofFn, Axes.get_ofFn, updateHold_active,
      updateHold_rounding]
    exact ⟨hi a, rfl⟩
  · rw [hpid, show holdDetected s.active s.latest = hold from rfl]
    cases hold with
    | true =>
      rw [pidCorr_of_hold, if_pos rfl]
      simp only [hu, h]
    | false =>
      rw [pidCorr_of_no_hold, strafeTerm_add_yawHoldTerm, if_neg Bool.false_ne_true]
      simp only [hu]
      rfl

/-- Settles O49: the path of a failed read, in each of the two modes. -/
theorem failedGyroReadDisablesStabilization : Obligations.FailedGyroReadDisablesStabilization := by
  intro s z
  refine ⟨fun i => ?_, fun hmode => ?_, fun hmode => ?_⟩
  · cases hmode : s.active.stabPid with
    | false => rw [stageStab_baseline_of_failed_read hmode, noCorrection_get]
    | true => rw [stageStab_pid_of_failed_read hmode, noCorrection_get]
  · rw [stageStab_baseline_of_failed_read hmode]
    rfl
  · rw [stageStab_pid_of_failed_read hmode]
    rfl

/-- Settles O50: without these gains the roll and yaw outputs are proportional, and pitch has no channel outside hold. -/
theorem pidWithoutGainsIsTheBaseline : Obligations.PidWithoutGainsIsTheBaseline := by
  intro s rate hmode hnohold hkiRoll hkdRoll hkiYaw hkdYaw
  have hroll : (pidOutputs rate (updateHold s)).get .roll = s.active.kpRoll * rate.roll := by
    rw [pidOutputs_get, updateHold_active]
    exact pidOutput_of_no_gains (a := .roll) hkiRoll hkdRoll _ _ _
  have hyaw : (pidOutputs rate (updateHold s)).get .yaw = s.active.kpYaw * rate.yaw := by
    rw [pidOutputs_get, updateHold_active]
    exact pidOutput_of_no_gains (a := .yaw) hkiYaw hkdYaw _ _ _
  rw [stageStab_pid hmode, hnohold, pidCorr_of_no_hold, hroll, hyaw]
  rfl

/-- Settles O51: Armed, S3 and then the combination; otherwise the state as it is. -/
theorem targetsAreClampedSums : Obligations.TargetsAreClampedSums := by
  intro s gyro i P x
  refine ⟨fun harmed => ?_, stageTargets_of_not_armed gyro⟩
  rw [stageTargets_of_armed harmed, combine_get]
  exact ⟨rfl, rfl⟩

end Sys2Proof.Proofs

/-! PROOFS. The output shaper (spec R170 to R178): the limit and the factor shorten a delta without turning it
round, and the clamp keeps what is between the old value and a target of its range. -/

namespace Sys2Proof.Machine

variable {P : Bank}

/-! ## The clamp -/

theorem le_clamp {a v lo hi : ℚ} (hrange : lo ≤ hi) (hhi : a ≤ hi) (hv : a ≤ v) : a ≤ clamp v lo hi := by
  rw [clamp_eq_max_min hrange]
  exact le_max_of_le_right (le_min hhi hv)

theorem clamp_le {a v lo hi : ℚ} (hrange : lo ≤ hi) (hlo : lo ≤ a) (hv : v ≤ a) : clamp v lo hi ≤ a := by
  rw [clamp_eq_max_min hrange]
  exact max_le hlo (min_le_of_right_le hv)

/-- The clamp brings no value further away from a point of its range. -/
theorem abs_clamp_sub_le {a v lo hi : ℚ} (hlo : lo ≤ a) (hhi : a ≤ hi) : |clamp v lo hi - a| ≤ |v - a| := by
  have hrange : lo ≤ hi := hlo.trans hhi
  rcases le_total a v with hav | hva
  · rw [abs_of_nonneg (sub_nonneg.mpr (le_clamp hrange hhi hav)), abs_of_nonneg (sub_nonneg.mpr hav)]
    exact sub_le_sub_right (clamp_le hrange (hlo.trans hav) le_rfl) a
  · rw [abs_of_nonpos (sub_nonpos.mpr (clamp_le hrange hlo hva)), abs_of_nonpos (sub_nonpos.mpr hva)]
    exact neg_le_neg (sub_le_sub_right (le_clamp hrange (hva.trans hhi) le_rfl) a)

/-! ## The limit and the factor (R171 to R173) -/

theorem rateLimit_nonneg (hvalid : cfgValid P = true) : 0 ≤ rateLimit P := by
  obtain ⟨_, _, haccel, _⟩ := cfgValid_limits hvalid
  obtain ⟨_, hperiod⟩ := cfgValid_times hvalid
  exact mul_nonneg (Int.cast_nonneg haccel) hperiod.le

theorem limitedDelta_of_unlimited (hoff : P.rateLimitEn = false) (d : ℚ) : limitedDelta P d = d := by
  rw [limitedDelta, hoff]
  rfl

theorem abs_limitedDelta_le (hvalid : cfgValid P = true) (hon : P.rateLimitEn = true) (d : ℚ) :
    |limitedDelta P d| ≤ rateLimit P := by
  rw [limitedDelta, if_pos hon]
  exact abs_le.mpr (clamp_mem (neg_le_self (rateLimit_nonneg hvalid)))

theorem limitedDelta_of_nonneg {d : ℚ} (hvalid : cfgValid P = true) (hd : 0 ≤ d) :
    0 ≤ limitedDelta P d ∧ limitedDelta P d ≤ d := by
  have hlim := rateLimit_nonneg hvalid
  unfold limitedDelta
  split
  · have hneg : -rateLimit P ≤ 0 := neg_nonpos.mpr hlim
    exact ⟨le_clamp (hneg.trans hlim) hlim hd, clamp_le (hneg.trans hlim) (hneg.trans hd) le_rfl⟩
  · exact ⟨hd, le_rfl⟩

theorem limitedDelta_of_nonpos {d : ℚ} (hvalid : cfgValid P = true) (hd : d ≤ 0) :
    d ≤ limitedDelta P d ∧ limitedDelta P d ≤ 0 := by
  have hlim := rateLimit_nonneg hvalid
  unfold limitedDelta
  split
  · have hneg : -rateLimit P ≤ 0 := neg_nonpos.mpr hlim
    exact ⟨le_clamp (hneg.trans hlim) (hd.trans hlim) le_rfl, clamp_le (hneg.trans hlim) hneg hd⟩
  · exact ⟨le_rfl, hd⟩

/-- Without the asymmetric mode the direction of the delta does not matter. -/
theorem smoothingFactor_of_symmetric (hsym : P.smoothAsym = false) (i : Fin 6) (d : ℚ) :
    smoothingFactor P i d = factorUp P i := by
  rw [smoothingFactor, hsym]
  exact if_neg fun h => Bool.false_ne_true h.1

theorem factorUp_mem (hvalid : cfgValid P = true) (i : Fin 6) : 0 ≤ factorUp P i ∧ factorUp P i ≤ 1 := by
  obtain ⟨hhorizontal, hvertical, _, _⟩ := cfgValid_factors hvalid
  unfold factorUp
  split
  · exact hhorizontal
  · exact hvertical

theorem factorDown_mem (hvalid : cfgValid P = true) (i : Fin 6) : 0 ≤ factorDown P i ∧ factorDown P i ≤ 1 := by
  obtain ⟨_, _, hhorizontal, hvertical⟩ := cfgValid_factors hvalid
  unfold factorDown
  split
  · exact hhorizontal
  · exact hvertical

theorem smoothingFactor_mem (hvalid : cfgValid P = true) (i : Fin 6) (d : ℚ) :
    0 ≤ smoothingFactor P i d ∧ smoothingFactor P i d ≤ 1 := by
  unfold smoothingFactor
  split
  · exact factorDown_mem hvalid i
  · exact factorUp_mem hvalid i

/-! ## One channel, exactly computed (R174, R175) -/

/-- What one tick asks a channel to move by, before the clamp. -/
def shapedDelta (P : Bank) (i : Fin 6) (d : ℚ) : ℚ := limitedDelta P d * smoothingFactor P i (limitedDelta P d)

theorem shapeChannel_exact (P : Bank) (i : Fin 6) (cur tgt : ℚ) :
    shapeChannel .exact P i cur tgt = clamp (cur + shapedDelta P i (tgt - cur)) P.pwmMin P.pwmBoostMax := rfl

theorem shapedDelta_of_nonneg {d : ℚ} (hvalid : cfgValid P = true) (i : Fin 6) (hd : 0 ≤ d) :
    0 ≤ shapedDelta P i d ∧ shapedDelta P i d ≤ d := by
  obtain ⟨hdelta, hle⟩ := limitedDelta_of_nonneg hvalid hd
  obtain ⟨hfactor, hone⟩ := smoothingFactor_mem hvalid i (limitedDelta P d)
  exact ⟨mul_nonneg hdelta hfactor, (mul_le_of_le_one_right hdelta hone).trans hle⟩

theorem shapedDelta_of_nonpos {d : ℚ} (hvalid : cfgValid P = true) (i : Fin 6) (hd : d ≤ 0) :
    d ≤ shapedDelta P i d ∧ shapedDelta P i d ≤ 0 := by
  obtain ⟨hle, hdelta⟩ := limitedDelta_of_nonpos hvalid hd
  obtain ⟨hfactor, hone⟩ := smoothingFactor_mem hvalid i (limitedDelta P d)
  exact ⟨hle.trans (le_mul_of_le_one_right hdelta hone), mul_nonpos_of_nonpos_of_nonneg hdelta hfactor⟩

/-- Symmetric and unlimited, a channel moves by a fraction of its error, so that the clamp has nothing to do. -/
theorem shapeChannel_of_symmetric {cur tgt : ℚ} (hvalid : cfgValid P = true) (hsym : P.smoothAsym = false)
    (hoff : P.rateLimitEn = false) (i : Fin 6) (hcur : P.pwmMin ≤ cur ∧ cur ≤ P.pwmBoostMax)
    (htgt : P.pwmMin ≤ tgt ∧ tgt ≤ P.pwmBoostMax) :
    shapeChannel .exact P i cur tgt = cur + (tgt - cur) * factorUp P i := by
  obtain ⟨hfactor, hone⟩ := factorUp_mem hvalid i
  have hmixed : cur + (tgt - cur) * factorUp P i ∈ Set.Icc P.pwmMin P.pwmBoostMax := by
    have hconvex := convex_Icc P.pwmMin P.pwmBoostMax hcur htgt (sub_nonneg.mpr hone) hfactor (sub_add_cancel 1 _)
    rwa [smul_eq_mul, smul_eq_mul,
      show (1 - factorUp P i) * cur + factorUp P i * tgt = cur + (tgt - cur) * factorUp P i by ring] at hconvex
  rw [shapeChannel_exact, shapedDelta, limitedDelta_of_unlimited hoff, smoothingFactor_of_symmetric hsym,
    clamp_of_mem hmixed.1 hmixed.2]

theorem shapeChannel_error_of_symmetric {cur tgt : ℚ} (hvalid : cfgValid P = true) (hsym : P.smoothAsym = false)
    (hoff : P.rateLimitEn = false) (i : Fin 6) (hcur : P.pwmMin ≤ cur ∧ cur ≤ P.pwmBoostMax)
    (htgt : P.pwmMin ≤ tgt ∧ tgt ≤ P.pwmBoostMax) :
    tgt - shapeChannel .exact P i cur tgt = (1 - factorUp P i) * (tgt - cur) := by
  rw [shapeChannel_of_symmetric hvalid hsym hoff i hcur htgt]
  ring

end Sys2Proof.Machine

namespace Sys2Proof.Proofs

open Sys2Proof.Machine

/-- Settles O52: S6 writes `cur` alone, and each channel is its `shapeChannel`. -/
theorem shaperMovesEachChannel : Obligations.ShaperMovesEachChannel := by
  intro s tgt
  refine ⟨rfl, fun i => ?_⟩
  rw [stageShape_cur, Six.get_ofFn]
  rfl

/-- Settles O53: the shaped delta lies between 0 and the error, and both ends of it are on the target's side of the
clamp. -/
theorem shaperNeverOvershoots : Obligations.ShaperNeverOvershoots := by
  intro P i cur tgt hvalid hlow hhigh
  have hrange := hlow.trans hhigh
  refine ⟨fun hup => ?_, fun hdown => ?_⟩
  · obtain ⟨hdelta, hle⟩ := shapedDelta_of_nonneg hvalid i (sub_nonneg.mpr hup)
    exact ⟨le_clamp hrange (hup.trans hhigh) (le_add_of_nonneg_right hdelta),
      clamp_le hrange hlow (le_sub_iff_add_le'.mp hle)⟩
  · obtain ⟨hle, hdelta⟩ := shapedDelta_of_nonpos hvalid i (sub_nonpos.mpr hdown)
    exact ⟨le_clamp hrange hhigh (sub_le_iff_le_add'.mp hle),
      clamp_le hrange (hlow.trans hdown) (add_le_of_nonpos_right hdelta)⟩

/-- Settles O54: the clamp only shortens the movement, whose length is the limited delta's times the factor. -/
theorem rateLimitBoundsTheMovement : Obligations.RateLimitBoundsTheMovement := by
  intro P i cur tgt hvalid hon hlow hhigh lim f
  obtain ⟨hfactor, hone⟩ : 0 ≤ f ∧ f ≤ 1 := smoothingFactor_mem hvalid i _
  refine ⟨?_, mul_le_of_le_one_left (rateLimit_nonneg hvalid) hone⟩
  calc |shapeChannel .exact P i cur tgt - cur|
      ≤ |cur + shapedDelta P i (tgt - cur) - cur| := abs_clamp_sub_le hlow hhigh
    _ = f * |limitedDelta P (tgt - cur)| := by
      rw [add_sub_cancel_left, shapedDelta, abs_mul, abs_of_nonneg hfactor, mul_comm]
    _ ≤ f * lim := mul_le_mul_of_nonneg_left (abs_limitedDelta_le hvalid hon _) hfactor

/-- Settles O55, by induction on the ticks: the first one leaves a value of the range, and `1 − f` of the error. -/
theorem smoothingErrorShrinksGeometrically : Obligations.SmoothingErrorShrinksGeometrically := by
  intro P i cur tgt n hvalid hsym hoff hcurLow hcurHigh htgtLow htgtHigh f
  induction n generalizing cur with
  | zero => rw [pow_zero, one_mul, Function.iterate_zero_apply]
  | succ n ih =>
    obtain ⟨hlow, hhigh⟩ : P.pwmMin ≤ shapeChannel .exact P i cur tgt ∧
        shapeChannel .exact P i cur tgt ≤ P.pwmBoostMax := clamp_mem (cfgValid_min_le_boost hvalid)
    have herror : tgt - shapeChannel .exact P i cur tgt = (1 - f) * (tgt - cur) :=
      shapeChannel_error_of_symmetric hvalid hsym hoff i ⟨hcurLow, hcurHigh⟩ ⟨htgtLow, htgtHigh⟩
    rw [Function.iterate_succ_apply, ih _ hlow hhigh, herror, pow_succ, mul_assoc]

end Sys2Proof.Proofs

/-! PROOFS. The events of a step (spec R44, R177, R200): the four that it can emit are read off the state it ends in, with
a valid bank in force, and the invariants of that state bound their duty cycles. -/

namespace Sys2Proof.Safety

open Sys2Proof.Machine

variable {s t : State}

/-! ## The duty cycle (R177) -/

theorem forall_mem_pulses {p : ℚ → Prop} {pw : Six ℚ} {pw6 : ℚ} (hpw : ∀ i, p (pw.get i)) (hpw6 : p pw6) :
    ∀ v ∈ pulses pw pw6, p v := by
  simpa [pulses, and_assoc, hpw6] using (Six.forall_get_iff pw).mp hpw

theorem duty_mem {P : Bank} {v : ℚ} (hvalid : cfgValid P = true) (hnonneg : 0 ≤ v)
    (hperiod : v * P.pwmFrequency ≤ Config.million) : 0 ≤ duty P v ∧ duty P v ≤ 1 := by
  obtain ⟨hfreq, _⟩ := cfgValid_frequency hvalid
  have hmillion : 0 < Config.million := by norm_num [Config.million]
  exact ⟨div_nonneg (mul_nonneg hnonneg hfreq.le) hmillion.le, (div_le_one hmillion).mpr hperiod⟩

/-- V3 and V4 allow every pulse width of the thruster range (R40). -/
theorem duty_mem_of_thruster {P : Bank} {v : ℚ} (hvalid : cfgValid P = true) (hlow : P.pwmMin ≤ v)
    (hhigh : v ≤ P.pwmBoostMax) : 0 ≤ duty P v ∧ duty P v ≤ 1 := by
  obtain ⟨hmin, _⟩ := cfgValid_pulse hvalid
  obtain ⟨hfreq, hboost⟩ := cfgValid_frequency hvalid
  exact duty_mem hvalid (hmin.trans hlow) ((mul_le_mul_of_nonneg_right hhigh hfreq.le).trans hboost)

/-- V5 allows both pulse widths of the LED channel (R40). -/
theorem duty_mem_of_led {P : Bank} (hvalid : cfgValid P = true) (on : Bool) :
    0 ≤ duty P (ledValue P on) ∧ duty P (ledValue P on) ≤ 1 := by
  obtain ⟨hoff, hon, hoffPeriod, honPeriod⟩ := cfgValid_led hvalid
  cases on with
  | false => exact duty_mem hvalid hoff hoffPeriod
  | true => exact duty_mem hvalid hon honPeriod

/-! ## What a step emits -/

/-- The events that a step which ends in state `t` can emit. -/
def emittable (t : State) : List Event :=
  [.setFreq t.active.pwmFrequency, t.writeEvent, .drvEnable, .drvDisable]

/-- From `s` to `t` only such events are emitted, and only under a valid bank. -/
def Emits (s t : State) : Prop :=
  ∃ es, t.trace = s.trace ++ es ∧ ∀ e ∈ es, e ∈ emittable t ∧ cfgValid t.active = true

theorem Emits.of_eq (htrace : t.trace = s.trace) : Emits s t :=
  ⟨[], by rw [htrace, List.append_nil], fun _ he => nomatch he⟩

theorem Emits.of_append {es : List Event} (htrace : t.trace = s.trace ++ es) (hes : es ⊆ emittable t)
    (hvalid : cfgValid t.active = true) : Emits s t :=
  ⟨es, htrace, fun _ he => ⟨hes he, hvalid⟩⟩

/-- Under the invariants a state has only legal events to emit. -/
theorem legalEvent_of_emittable (hcontrol : ControlInv t) (hrange : RangeInv t) (hvalid : cfgValid t.active = true) :
    ∀ e ∈ emittable t, legalEvent t.active e := by
  have hwrite : legalEvent t.active t.writeEvent := forall_mem_pulses
    (fun i => duty_mem_of_thruster hvalid (hrange.cur i).1 (hrange.cur i).2)
    (by rw [hcontrol.led]; exact duty_mem_of_led hvalid t.ledOn)
  have hfreq : legalEvent t.active (.setFreq t.active.pwmFrequency) := (cfgValid_frequency hvalid).1
  simp only [emittable, List.forall_mem_cons]
  exact ⟨hfreq, hwrite, trivial, trivial, fun _ he => nomatch he⟩

/-- The bank in force for a tick of a running engine is valid, the old one or a new one (R57, R93). -/
theorem bankInForce_valid (h : ControlInv s) (hen : s.en = true) : cfgValid (bankInForce s) = true := by
  rw [← (stageSnap_frame s).2.1]
  exact (runningInv_stageSnap h hen).valid

/-- Behind the events of S0 a tick emits the `Write` of its last state, and the stop of the driver if S1 has ended it. -/
theorem runTick_trace (hen : s.en = true) (now : BitVec 64) (rx : Option Rx) (gyro : Option (Axes ℚ)) :
    let t := runTick now rx gyro s
    t.trace = (stageSnap s).trace ++ [t.writeEvent] ∨ t.trace = (stageSnap s).trace ++ [t.writeEvent, .drvDisable] := by
  have hending := stageLive_ending now rx gyro.isSome (stageSnap s)
  rw [(stageSnap_frame s).1, hen] at hending
  rcases runTick_cases s now rx gyro with ⟨hrun, h⟩ | ⟨hstop, h⟩ <;> rw [h]
  · rcases hending with ⟨_, htrace⟩ | ⟨hoff, _⟩
    · rw [stagesAfterLive_eq, ← htrace]
      exact .inl rfl
    · cases hrun.symm.trans hoff
  · rcases hending with ⟨hon, _⟩ | ⟨_, _, _, htrace⟩
    · cases hon.symm.trans hstop
    · exact .inr htrace

/-- S0 emits at most the `SetFreq` of the bank in force. -/
theorem stageSnap_events (s : State) :
    ∃ pre, (stageSnap s).trace = s.trace ++ pre ∧ pre ⊆ [.setFreq (bankInForce s).pwmFrequency] := by
  refine ⟨_, (stageSnap_frame s).2.2, ?_⟩
  split
  · exact List.Subset.refl _
  · exact List.nil_subset _

theorem emits_runTick (h : ControlInv s) (hen : s.en = true) (now : BitVec 64) (rx : Option Rx)
    (gyro : Option (Axes ℚ)) : Emits s (runTick now rx gyro s) := by
  have hactive : (runTick now rx gyro s).active = bankInForce s := (runTick_banks now rx gyro s).1
  have hvalid : cfgValid (runTick now rx gyro s).active = true := hactive ▸ bankInForce_valid h hen
  obtain ⟨pre, hsnap, hpre⟩ := stageSnap_events s
  rw [← hactive] at hpre
  have hfreq : pre ⊆ emittable (runTick now rx gyro s) := List.Subset.trans hpre (by simp [emittable])
  have htick := runTick_trace hen now rx gyro
  simp only [hsnap, List.append_assoc] at htick
  rcases htick with htrace | htrace
  · exact .of_append htrace (List.append_subset.mpr ⟨hfreq, by simp [emittable]⟩) hvalid
  · exact .of_append htrace (List.append_subset.mpr ⟨hfreq, by simp [emittable]⟩) hvalid

theorem emits_startEngine (hvalid : cfgValid s.active = true) : Emits s (startEngine s) :=
  .of_append (by rw [startEngine_eq]) (by simp [emittable, startEngine_eq, State.writeEvent]) hvalid

theorem emits_shutdown (c : BitVec 4) (hvalid : cfgValid s.active = true) : Emits s (shutdown c s) :=
  .of_append (by rw [shutdown_eq]) (by simp [emittable, shutdown_eq, State.writeEvent]) hvalid

theorem emits_of_effect (h : Effect s t) (hs : ControlInv s) : Emits s t := by
  obtain ⟨_, hsnapshot⟩ := s.snapshot_frame
  cases h with
  | refused => exact .of_eq rfl
  | configured busy dirty B => exact .of_eq rfl
  | noBank _ _ => exact .of_eq hsnapshot
  | started valid =>
    obtain ⟨es, htrace, hes⟩ := emits_startEngine valid
    exact ⟨es, hsnapshot ▸ htrace, hes⟩
  | disabled running => exact emits_shutdown causeDisable (hs.enabled running)
  | ticked running now rx gyro => exact emits_runTick hs running now rx gyro

/-- A step emits what its command emits: the ports have no events of their own. -/
theorem emits_of_step (hs : ControlInv s) (hstep : step s = .next t) : Emits s t := by
  obtain ⟨ctlIn, cfgIn, turns, rfl | rfl | heffect⟩ := step_next_cases hstep
  · exact .of_eq rfl
  · exact .of_eq rfl
  · have hcommand : Emits (s.withInputs ctlIn cfgIn turns) t := emits_of_effect heffect (hs.congr rfl)
    exact hcommand

end Sys2Proof.Safety

namespace Sys2Proof.Proofs

open Sys2Proof.Machine Sys2Proof.Safety

/-- Settles O56: the events are of those that the last state can emit, and the two step invariants (O57, O58) hold
there. -/
theorem emittedEventsHaveLegalDuty : Obligations.EmittedEventsHaveLegalDuty := by
  intro s t hcontrol hrange hstep hround e he
  obtain ⟨es, htrace, hes⟩ := emits_of_step hcontrol hstep
  rw [htrace, List.drop_left] at he
  obtain ⟨hemittable, hvalid⟩ := hes e he
  have hcontrol' := everyStepKeepsTheControlInvariant s t hcontrol hstep
  have hrange' := everyStepKeepsTheRangeInvariant s t hcontrol hrange hstep hround
  exact legalEvent_of_emittable hcontrol' hrange' hvalid e hemittable

end Sys2Proof.Proofs

namespace Sys2Proof.Safety

open Sys2Proof.Machine

variable {s : State}

/-! ## The LED's edge toggle -/

/-- A bit that is as it was makes no rising edge. -/
theorem ledAfter_of_same (b on : Bool) : ledAfter b b on = on := by
  cases b <;> rfl

/-- A pressed bit toggles the LED exactly when it was not pressed before. -/
theorem ledAfter_of_pressed (prevBtn on : Bool) : ledAfter true prevBtn on = if prevBtn then on else !on := by
  cases prevBtn <;> rfl

/-- S2 has nothing to do when it has seen the bit already and channel 6 holds the LED's value. -/
theorem stageLed_of_seen (hbutton : ledButton s.active s.latest = s.prevBtn)
    (hled : s.cur6 = ledValue s.active s.ledOn) : stageLed s = s := by
  rw [stageLed, hbutton, ledAfter_of_same, ← hled]

/-- S2 leaves what `stageLed_of_seen` asks for, so that it does nothing again on the same frame (R181). -/
theorem stageLed_stageLed (s : State) : stageLed (stageLed s) = stageLed s :=
  stageLed_of_seen (stageLed_prevBtn s).symm (stageLed_cur6 s)

/-- Without the bit pressed there is no edge: the LED keeps its state. -/
theorem stageLed_of_not_pressed (hbutton : ledButton s.active s.latest = false) :
    stageLed s = { s with prevBtn := false, cur6 := ledValue s.active s.ledOn } := by
  have hkept : ledAfter false s.prevBtn s.ledOn = s.ledOn := if_neg fun hedge => nomatch hedge.1
  rw [stageLed, hbutton, hkept]

/-! ## Frames with the button held -/

/-- Stage S2 on the next Armed tick's frame `f`. -/
def ledFrame (s : State) (f : GamepadFrame) : State := stageLed { s with latest := f }

@[simp] theorem ledFrame_active (s : State) (f : GamepadFrame) : (ledFrame s f).active = s.active := rfl

@[simp] theorem ledFrame_prevBtn (s : State) (f : GamepadFrame) : (ledFrame s f).prevBtn = ledButton s.active f := rfl

theorem ledFrame_ledOn_of_pressed {f : GamepadFrame} (hpressed : ledButton s.active f = true) :
    (ledFrame s f).ledOn = if s.prevBtn then s.ledOn else !s.ledOn := by
  rw [← ledAfter_of_pressed, ← hpressed]
  rfl

/-- Once the bit is pressed, frames that keep it pressed make no edge: the LED does not change (R183). -/
theorem foldl_ledFrame_of_held (fs : List GamepadFrame) (hprev : s.prevBtn = true)
    (hheld : ∀ g ∈ fs, ledButton s.active g = true) :
    (fs.foldl ledFrame s).ledOn = s.ledOn ∧ (fs.foldl ledFrame s).prevBtn = true := by
  induction fs generalizing s with
  | nil => exact ⟨rfl, hprev⟩
  | cons f fs ih =>
    obtain ⟨hpressed, hrest⟩ := List.forall_mem_cons.mp hheld
    have hkept : (ledFrame s f).ledOn = s.ledOn := by
      rw [ledFrame_ledOn_of_pressed hpressed, if_pos hprev]
    rw [List.foldl_cons, ← hkept]
    exact ih hpressed hrest

end Sys2Proof.Safety

namespace Sys2Proof.Proofs

open Sys2Proof.Machine Sys2Proof.Safety

/-- Settles O38: the next state is the definition's own, the second run finds nothing to do, and the neutral frame has
no button pressed. -/
theorem ledTogglesOnARisingEdge : Obligations.LedTogglesOnARisingEdge := by
  intro s
  refine ⟨rfl, stageLed_stageLed s, fun hneutral hoff => ?_⟩
  have hbutton : ledButton s.active s.latest = false := by
    rw [hneutral]
    exact neutral_button _
  rw [stageLed_of_not_pressed hbutton, hoff]
  rfl

/-- Settles O39: the first frame toggles the LED when the bit was not pressed before, and the frames behind it find the
bit pressed already, by induction on their list. -/
theorem heldButtonTogglesTheLedOnce : Obligations.HeldButtonTogglesTheLedOnce := by
  intro s f fs hheld
  obtain ⟨hfirst, hrest⟩ := List.forall_mem_cons.mp hheld
  have hfold := foldl_ledFrame_of_held (s := ledFrame s f) fs hfirst hrest
  rw [ledFrame_ledOn_of_pressed hfirst] at hfold
  exact hfold

end Sys2Proof.Proofs

/-! PROOFS. Power-on reset and the boot order (spec R45, R210, R212, R213): `CFGLOAD` leaves its bank published in an
otherwise reset block, and `INIT` goes on from there. -/

namespace Sys2Proof.Safety

open Sys2Proof.Machine

variable {s t : State}

/-- A list of commands that answers a next state hands it to the commands behind it. -/
theorem runCommands_append {is : List Instr} (h : runCommands is s = .next t) (rest : List Instr) :
    runCommands (is ++ rest) s = runCommands rest t := by
  induction is generalizing s with
  | nil =>
    cases h
    rfl
  | cons i is ih =>
    cases hexec : exec i s with
    | next u =>
      rw [runCommands_cons hexec] at h
      rw [List.cons_append, runCommands_cons hexec, ih h]
    | fault r => simp [runCommands, hexec] at h
    | refused r => simp [runCommands, hexec] at h

theorem runCommands_singleton (i : Instr) (s : State) : runCommands [i] s = exec i s := by
  rw [runCommands]
  cases exec i s <;> rfl

/-- The block after reset and a `CFGLOAD` whose writes make up `B`. -/
def resetLoaded (B : Bank) : State := { State.reset with cfgDirty := true, shadow := B }

theorem snapshot_resetLoaded_of_valid {B : Bank} (hvalid : cfgValid B = true) :
    (resetLoaded B).snapshot = { State.reset with shadow := B, active := B } :=
  (State.snapshot_of_valid (s := resetLoaded B) rfl rfl hvalid).1

theorem snapshot_resetLoaded_of_invalid {B : Bank} (hinvalid : cfgValid B = false) :
    (resetLoaded B).snapshot = { State.reset with shadow := B, cfgErr := true } :=
  (State.snapshot_of_invalid (s := resetLoaded B) rfl rfl hinvalid).1

end Sys2Proof.Safety

namespace Sys2Proof.Proofs

open Sys2Proof.Machine Sys2Proof.Safety

/-- Settles O8: the reset state is written out in the model; its registers and banks are 0 at every index. -/
theorem powerOnResetValues : Obligations.PowerOnResetValues := by
  intro s t
  have hcur : ∀ i, t.cur.get i = 0 := Six.get_const 0
  have hstab : ∀ a, t.integ.get a = 0 ∧ t.eprev.get a = 0 := fun a => ⟨Axes.get_const 0 a, Axes.get_const 0 a⟩
  have hbanks : ∀ i, t.shadow.read i = 0 ∧ t.active.read i = 0 := fun i => ⟨Bank.read_zero i, Bank.read_zero i⟩
  exact ⟨hcur, rfl, hstab, rfl, rfl, rfl, rfl, rfl, rfl, rfl, rfl, rfl, hbanks, rfl, rfl, rfl, rfl, rfl, rfl, rfl, rfl,
    rfl⟩

/-- Settles O17: `CFGLOAD` ends in `resetLoaded` (O16), and `INIT` snapshots its bank and starts on it or refuses it
(O21). -/
theorem bootSequenceStartsTheEngine : Obligations.BootSequenceStartsTheEngine := by
  intro ws B cur
  have hload : runCommands (cfgload ws) State.reset = .next (resetLoaded B) :=
    cfgloadPublishesItsWrites State.reset ws rfl
  have hboot : runCommands (cfgload ws ++ [.init]) State.reset = exec .init (resetLoaded B) :=
    (runCommands_append hload [.init]).trans (runCommands_singleton _ _)
  obtain ⟨_, hinit⟩ := initStartsTheEngine
  obtain ⟨_, hrefused, hstarted⟩ := hinit (resetLoaded B)
  rw [hboot]
  refine ⟨fun hvalid => ?_, fun hinvalid => ?_⟩
  · rw [snapshot_resetLoaded_of_valid hvalid] at hstarted
    exact hstarted rfl hvalid
  · rw [snapshot_resetLoaded_of_invalid hinvalid] at hrefused
    exact hrefused rfl cfgValid_zero

end Sys2Proof.Proofs

/-! PROOFS. A frame that is not accepted is no event (spec R121, R189): the first part of S1 is the only reader of the
frame, and it does nothing with one that is not accepted. -/

namespace Sys2Proof.Machine

open Sys2Proof.Safety

variable {s : State} {rx : Option Rx}

theorem receive_of_not_accepted (now : BitVec 64) (hno : accepted s.active rx = false) : receive now rx s = s := by
  rcases receive_cases s now rx with ⟨_, _, hacc, _⟩ | ⟨_, hkept⟩
  · cases hno.symm.trans hacc
  · exact hkept

theorem stageLive_of_not_accepted (now : BitVec 64) (v : Bool) (hno : accepted s.active rx = false) :
    stageLive now rx v s = stageLive now none v s := by
  rw [stageLive, receive_of_not_accepted now hno]
  rfl

theorem runTick_of_not_accepted (now : BitVec 64) (gyro : Option (Axes ℚ))
    (hno : accepted (bankInForce s) rx = false) : runTick now rx gyro s = runTick now none gyro s := by
  obtain ⟨_, hbank, _⟩ := stageSnap_frame s
  rw [← hbank] at hno
  rw [runTick, stageLive_of_not_accepted now _ hno]
  rfl

theorem exec_tick_of_not_accepted (now : BitVec 64) (gyro : Option GyroWords)
    (hno : accepted (bankInForce s) rx = false) : exec (.tick now rx gyro) s = exec (.tick now none gyro) s := by
  cases hen : s.en with
  | false => rw [exec_tick_of_stopped hen, exec_tick_of_stopped hen]
  | true => rw [exec_tick_of_running hen, exec_tick_of_running hen, runTick_of_not_accepted now _ hno]

end Sys2Proof.Machine

namespace Sys2Proof.Proofs

open Sys2Proof.Machine Sys2Proof.Safety

/-- Settles O34: without the wildcard and from another address a frame is not accepted under the bank in force. -/
theorem unknownPeerFrameHasNoEffect : Obligations.UnknownPeerFrameHasNoEffect := by
  intro s now r gyro hany haddr
  have hno : accepted (bankInForce s) (some r) = false := by
    rw [← Bool.not_eq_true, accepted_some_iff]
    exact not_or.mpr ⟨Bool.eq_false_iff.mp hany, haddr⟩
  exact exec_tick_of_not_accepted now gyro hno

end Sys2Proof.Proofs
